-- ==== Sys2Proof/Word.lean ====
section
/-! DEFINITION. The word types of the Bodega frame codec core and a byte's and a bit's plainest readings. -/

namespace Sys2Proof

/-- A byte of a frame or buffer (00_scope.md R10). -/
abbrev Byte := BitVec 8

/-- A 16-bit location of the read space, a parameter register or a checksum. -/
abbrev Half := BitVec 16

/-- A request word (30_encoding.md R110). -/
abbrev ReqWord := BitVec 32

/-- A bit as the number 0 or 1. -/
def bit (b : Bool) : Nat := if b then 1 else 0

end Sys2Proof
end

