-- ==== Sys2Proof/Config.lean ====
section
/-! DEFINITION. What an implementation fixes (00_scope.md R8, R9), the protocol's literals under their own names
(91_not_in_source.md N33), and the free values. -/

namespace Sys2Proof.Config

/-- RXBUF_BYTES (R8). -/
def rxBufBytes : Nat := 258
/-- TXD_BYTES (R8). -/
def txdBytes : Nat := 253
/-- TXBUF_BYTES (R8). -/
def txBufBytes : Nat := 258

/-- The tie rules ROUND may take (R8 TIE_MODE, 93_implementation_defined.md I3). -/
inductive TieMode where
  | awayFromZero
  | toEven
  deriving DecidableEq, Repr

/-- NUM_F (R8): fraction bits of a numeric operand, 0 to 15. DESIGN CHOICE: the default 4; log entry 6, unsafe. -/
def numF : Nat := 4
/-- TIE_MODE (R8, 90_conflicts.md C4). DESIGN CHOICE: fixed as the spec fixes it; log entry 7, unsafe. -/
def tieMode : TieMode := .awayFromZero

/-- SYNC (R9). -/
def sync : Byte := 0xFE
/-- The minimum frame length (R9). -/
def minFrame : Nat := 6
/-- The minimum LEN (R9). -/
def minLen : Nat := 3
/-- The single-zone minimum data length (R9). -/
def singleMin : Nat := 18
/-- The dual-zone threshold (R9). -/
def dualMin : Nat := 28
/-- The battery sentinel: not measured (R9, 40_primitives.md R169). -/
def battSentinel : Byte := 0x7F
/-- The signed-8 range (R9). -/
def s8Min : Int := -128
def s8Max : Int := 127

/-- Wire CMD codes (30_encoding.md R123). The zone of 0x05 and 0x06 is the spec's decision D14. -/
def cmdBind : Byte := 0x00
def cmdQuery : Byte := 0x01
def cmdSet : Byte := 0x02
def cmdTelemetrySingle : Byte := 0x01
def cmdTelemetryDual : Byte := 0x02
def cmdTargetLeft : Byte := 0x05
def cmdTargetRight : Byte := 0x06

/-- The bind frame and its checksum, opaque constants (42_tx_framer.md R250, 90_conflicts.md C8). -/
def bindFrame : List Byte := [0xFE, 0xFE, 0x03, 0x00, 0x01, 0xFF]
def bindCk : Half := 0x01FF
/-- The query frame and its checksum (42_tx_framer.md R253, 90_conflicts.md C8). -/
def queryFrame : List Byte := [0xFE, 0xFE, 0x03, 0x01, 0x02, 0x00]
def queryCk : Half := 0x0200

/-- The compressor bands in decivolts (40_primitives.md R171). -/
def compOffFrom : Nat := 240
def compOnAbove : Nat := 230
def compOnBelow : Nat := 239

/-- What rd_data shows while BUSY (70_reset_and_hazards.md R360, I4): a free value for the n-th draw at an address.
Log entry 4, safe. -/
opaque busyReadData : Nat → BitVec 12 → Half

/-- What the extractor reads at index o outside its byte sequence (40_primitives.md R156, I18): a free value,
which no request reaches. Log entry 5, safe. -/
opaque beyondByte : Nat → Byte

end Sys2Proof.Config
end

