-- ==== Sys2Proof/Machine/Primitives.lean ====
section
/-! DEFINITION. The shared primitives of 40_primitives.md that work on byte sequences: the checksum-16 accumulator, the
byte-field extractor, the trailer and the framer. The decoder of wire frames and the requests both use them. -/

namespace Sys2Proof

/-- One step of the checksum-16 accumulator (40_primitives.md R150). -/
def ckStep (acc : Half) (b : Byte) : Half := acc + b.setWidth 16

/-- CK16 (R150, R151): the accumulator started at 0 and stepped through the bytes. -/
def ck16 (S : List Byte) : Half := S.foldl ckStep 0

/-- DBL (R153): a left shift by one that drops bit 15. -/
def dbl (s : Half) : Half := s <<< 1

/-- The three results of the checksum match (R154). -/
inductive CkMatch where
  | plain
  | doubled
  | none
  deriving DecidableEq, Repr

/-- CKMATCH(s, t) (R154), the plain form first. -/
def ckMatch (s t : Half) : CkMatch :=
  if t = s then .plain else if t = dbl s then .doubled else .none

/-- Field width of the extractor (R155). -/
inductive FieldWidth where
  | one
  | two
  deriving DecidableEq, Repr

/-- Endianness control of the extractor (R155). -/
inductive Endian where
  | be
  | le
  deriving DecidableEq, Repr

/-- Extension control of the extractor (R155). -/
inductive Ext where
  | u
  | s
  deriving DecidableEq, Repr

/-- S[o] (00_scope.md R12). Outside S it is a free value, which no request reaches (R156, I18; log entry 5). -/
def byteAt (S : List Byte) (o : Nat) : Byte :=
  match S[o]? with
  | some b => b
  | none => Config.beyondByte o

/-- zext_16 or sext_16 of a byte (00_scope.md R13). -/
def extendByte (x : Ext) (b : Byte) : Half :=
  match x with
  | .u => b.setWidth 16
  | .s => b.signExtend 16

/-- EXTRACT (40_primitives.md R155). -/
def extract (S : List Byte) (o : Nat) (w : FieldWidth) (e : Endian) (x : Ext) : Half :=
  match w, e with
  | .one, _ => extendByte x (byteAt S o)
  | .two, .be => byteAt S o ++ byteAt S (o + 1)
  | .two, .le => byteAt S (o + 1) ++ byteAt S o

/-- s8 (R157): b if b < 128, else b - 256. -/
def s8 (b : Byte) : Int := if b.toNat < 128 then b.toNat else b.toNat - 256

/-- bool (R158): every nonzero byte is true. -/
def boolOf (b : Byte) : Bool := b != 0

/-- TRAILER (R164): the checksum as two bytes, big-endian (20_memory.md R83). -/
def trailer (s : Half) : List Byte := [s.extractLsb' 8 8, s.extractLsb' 0 8]

/-- The bytes a frame's checksum covers: the header and the data region (R165). -/
def frameHead (D : List Byte) : List Byte :=
  Config.sync :: Config.sync :: BitVec.ofNat 8 (D.length + 2) :: D

/-- FRAMEOF (R165): the frame of a data region, and its checksum. -/
def frameOf (D : List Byte) : List Byte × Half :=
  (frameHead D ++ trailer (ck16 (frameHead D)), ck16 (frameHead D))

end Sys2Proof
end

