-- ==== Sys2Proof/Syntax.lean ====
section
/-! DEFINITION. The instructions: one constructor per row of spec/opcode_table.json; the items that encode them; the
names under which the decoder rejects. -/

namespace Sys2Proof

/-- The zone operand of TARGET (30_encoding.md R113): bit value 0 is left, 1 is right. -/
inductive Zone where
  | left
  | right
  deriving DecidableEq, Repr

/-- One constructor per row of the opcode table, in the table's order. The first sixteen are the requests
(30_encoding.md R117); the last seven are the wire frames (R123), whose meaning as instructions is the model's reading
of R123's "handled by" (DESIGN CHOICE, log entry 8). Ignored operand bits (R119) are no operands. -/
inductive Instr where
  /-- NOP (44_control.md R300). -/
  | nop
  /-- RX.CLR (41_rx_parser.md R190). -/
  | rxClr
  /-- RX.PUSH b (R193). -/
  | rxPush (b : Byte)
  /-- DECODE (R200). -/
  | decode
  /-- TXD.CLR (42_tx_framer.md R240). -/
  | txdClr
  /-- TXD.PUSH b (R243). -/
  | txdPush (b : Byte)
  /-- FRAME (R245). -/
  | frame
  /-- BIND (R250). -/
  | bind
  /-- QUERY (R253). -/
  | query
  /-- TARGET z, v (43_command_marshaller.md R276). -/
  | target (z : Zone) (v : Half)
  /-- SETP Pi, v (R271). -/
  | setp (i : BitVec 4) (v : Half)
  /-- SET (R290). -/
  | set
  /-- Reserved OP 0xC (44_control.md R303). -/
  | reservedC
  /-- Reserved OP 0xD (R303). -/
  | reservedD
  /-- Reserved OP 0xE (R303). -/
  | reservedE
  /-- Reserved OP 0xF (R303). -/
  | reservedF
  /-- The outbound bind frame, CMD 0x00 (30_encoding.md R123, R129). -/
  | wireBind
  /-- The outbound query frame, CMD 0x01 (R123, R129). -/
  | wireQuery
  /-- An inbound frame with CMD 0x01, its BODY and its trailer as received (R120, R123, R125). -/
  | wireTelemetrySingle (body : List Byte) (ck : Half)
  /-- The outbound set frame, CMD 0x02, with its BODY (R123, R127). -/
  | wireSet (body : List Byte)
  /-- An inbound frame with CMD 0x02, its BODY and its trailer as received (R120, R123, R125). -/
  | wireTelemetryDual (body : List Byte) (ck : Half)
  /-- The outbound left-zone target frame, CMD 0x05, with its temperature byte (R123, R128). -/
  | wireTargetLeft (temp : Byte)
  /-- The outbound right-zone target frame, CMD 0x06 (R123, R128). -/
  | wireTargetRight (temp : Byte)
  deriving DecidableEq, Repr

/-- What the host offers the CORE: a request word on the request port (10_state.md R32), or, for the table's wire
rows, the bytes of a whole frame travelling in one direction (log entry 8). -/
inductive Item where
  | request (w : ReqWord)
  | frameIn (bytes : List Byte)
  | frameOut (bytes : List Byte)
  deriving DecidableEq, Repr

/-- Why bytes are no frame of the wire table. Each name is a check of the wire decoder; no request word meets one. -/
inductive FrameError where
  /-- Fewer than 6 bytes. -/
  | tooShort
  /-- The first two bytes are not 0xFE, 0xFE. -/
  | badSync
  /-- The byte count is not 3 + LEN, or LEN is below 3. -/
  | badLength
  /-- The CMD byte is no code of the table in this direction. -/
  | badCommand (cmd : Byte)
  /-- An outbound frame's BODY is not one that its command has. -/
  | badBody
  /-- An outbound frame's trailer is not its plain checksum. -/
  | badChecksum
  deriving DecidableEq, Repr

end Sys2Proof
end

