-- ==== Sys2Proof/Machine/State.lean ====
section
/-! DEFINITION. The state of the CORE (10_state.md), as plain data, with the host's side of its ports; the reasons a step
can stop; the machine after reset. -/

namespace Sys2Proof.Machine

/-- One byte buffer: its cells by index, strictly rising, none equal to what an unlisted index reads as. -/
abbrev Memory := List Host.Cell

/-- What an unlisted index of a buffer reads as. DESIGN CHOICE: 0x00, never observable (10_state.md R51,
93_implementation_defined.md I5); log entry 3, unsafe. -/
def unlistedByte : Byte := 0x00

/-- DEC_REASON (60_exceptions.md R312). -/
inductive DecReason where
  | none
  | short
  | sync
  | lenField
  | lenMismatch
  | checksum
  | cmd
  | dataShort
  deriving DecidableEq, Repr

/-- TX_CAUSE (60_exceptions.md R316); code 3 is never written. -/
inductive TxCause where
  | none
  | txdOverflow
  | badParam
  deriving DecidableEq, Repr

/-- RUN_MODE (10_state.md R48); code 3 is never written. -/
inductive RunMode where
  | max
  | eco
  | unknown
  deriving DecidableEq, Repr

/-- BSAVER of the record (R48). -/
inductive Saver where
  | low
  | mid
  | high
  | unknown
  deriving DecidableEq, Repr

/-- UNIT (R48). -/
inductive TempUnit where
  | c
  | f
  deriving DecidableEq, Repr

/-- COMP (R48); code 3 is never written. -/
inductive Comp where
  | off
  | on
  | unknown
  deriving DecidableEq, Repr

/-- The fields of STATUS (10_state.md R45); Flags.lean packs them into the word the read port shows. -/
structure Status where
  decDone : Bool
  decOk : Bool
  decReason : DecReason
  decCkDbl : Bool
  txErr : Bool
  txCause : TxCause
  badOp : Bool
  deriving DecidableEq, Repr

/-- The telemetry record registers (10_state.md R40 to R43). -/
structure Record where
  valid : Bool
  locked : Bool
  powered : Bool
  unit : TempUnit
  runMode : RunMode
  saver : Saver
  comp : Comp
  battPresent : Bool
  rightPresent : Bool
  cmd : Byte
  dlen : Byte
  leftTarget : Half
  tempMax : Half
  tempMin : Half
  leftHyst : Half
  startDelay : Half
  lHot : Half
  lMid : Half
  lCold : Half
  lHalt : Half
  leftCurrent : Half
  battPct : Half
  voltInt : Half
  voltFrac : Half
  voltDeci : Half
  rightTarget : Half
  rHyst : Half
  rHot : Half
  rMid : Half
  rCold : Half
  rHalt : Half
  rightCurrent : Half
  runStatus : Half
  deriving DecidableEq, Repr

/-- What the host does at the ports (10_state.md R32), in the order it does it: the host's program (R31).
DESIGN CHOICE, log entry 1. -/
inductive HostAction where
  /-- req_valid with an item; held until it is accepted (70_reset_and_hazards.md R361). -/
  | offer (it : Item)
  /-- The host waits for req_ready = 1 (20_memory.md R96). -/
  | awaitReady
  /-- The host drives rd_addr (20_memory.md R88). -/
  | read (a : BitVec 12)
  /-- rst = 1 at a clock edge (70_reset_and_hazards.md R350). -/
  | reset
  deriving DecidableEq, Repr

/-- The state. The fields down to `inFlight` are the CORE's (10_state.md R33 to R47, R52); the last three are the host's
side and the model's own (log entries 1, 4, 11). -/
structure State where
  rxbuf : Memory
  rxLen : BitVec 9
  rxOvf : Bool
  txd : Memory
  txdLen : BitVec 8
  txdOvf : Bool
  txbuf : Memory
  txLen : BitVec 9
  params : Vector (BitVec 16) 16
  record : Record
  status : Status
  decCk : Half
  txCk : Half
  inFlight : Option Item
  inbox : List HostAction
  rdAddr : BitVec 12
  draws : Nat
  deriving DecidableEq, Repr

/-- Why the machine would stop with a fault: never. The CORE has no trap (60_exceptions.md R310, R322), so there is no
constructor, nobody raises one, and nothing about it is unsafe. -/
inductive Fault where
  deriving DecidableEq, Repr

/-- Why a step has no meaning. -/
inductive Refusal where
  /-- Raised by an arm of exec for an instruction that has no meaning yet. Safe. -/
  | notModelled (mnemonic : String)
  /-- Raised by the step when the item in flight is a frame to emit that is no outbound frame of the wire table
  (log entry 8). No request word meets it. Safe. -/
  | notOutboundFrame (why : FrameError)
  deriving DecidableEq, Repr

/-- STATUS after reset: 0x0000 (10_state.md R51). -/
def Status.reset : Status where
  decDone := false
  decOk := false
  decReason := .none
  decCkDbl := false
  txErr := false
  txCause := .none
  badOp := false

/-- The record registers after reset: every one 0 (10_state.md R40, R51). -/
def Record.reset : Record where
  valid := false
  locked := false
  powered := false
  unit := .c
  runMode := .max
  saver := .low
  comp := .off
  battPresent := false
  rightPresent := false
  cmd := 0
  dlen := 0
  leftTarget := 0
  tempMax := 0
  tempMin := 0
  leftHyst := 0
  startDelay := 0
  lHot := 0
  lMid := 0
  lCold := 0
  lHalt := 0
  leftCurrent := 0
  battPct := 0
  voltInt := 0
  voltFrac := 0
  voltDeci := 0
  rightTarget := 0
  rHyst := 0
  rHot := 0
  rMid := 0
  rCold := 0
  rHalt := 0
  rightCurrent := 0
  runStatus := 0

/-- The machine after reset (10_state.md R51, 70_reset_and_hazards.md R350, R351), with no host action placed. -/
def State.reset : State where
  rxbuf := []
  rxLen := 0
  rxOvf := false
  txd := []
  txdLen := 0
  txdOvf := false
  txbuf := []
  txLen := 0
  params := Vector.replicate 16 0
  record := Record.reset
  status := Status.reset
  decCk := 0
  txCk := 0
  inFlight := none
  inbox := []
  rdAddr := 0
  draws := 0

end Sys2Proof.Machine
end

