-- ==== Sys2Proof/Machine/Operands.lean ====
section
/-! DEFINITION. Numeric operands (30_encoding.md R116), rounding, clamping and encoding (40_primitives.md R159 to R163),
and the classifiers of the telemetry fields (R167 to R172). -/

namespace Sys2Proof.Machine

/-- as_int (00_scope.md R13): the two's-complement integer of a numeric operand. -/
def asInt (x : Half) : Int := x.toInt

/-- ROUND on the integer reading v of an operand with nf fraction bits (40_primitives.md R160): to the nearest integer,
exact halves by the tie rule (93_implementation_defined.md I3). -/
def roundInt (tie : Config.TieMode) (nf : Nat) (v : Int) : Int :=
  match nf with
  | 0 => v
  | k + 1 =>
    match tie with
    | .awayFromZero => if 0 ≤ v then (v + 2 ^ k) / 2 ^ (k + 1) else -((-v + 2 ^ k) / 2 ^ (k + 1))
    | .toEven =>
      let below := v / 2 ^ (k + 1)
      let rest := v % 2 ^ (k + 1)
      if rest < 2 ^ k then below
      else if 2 ^ k < rest then below + 1
      else if below % 2 = 0 then below else below + 1

/-- max(-128, min(127, v)) (40_primitives.md R161). -/
def clampInt (v : Int) : Int := max Config.s8Min (min Config.s8Max v)

/-- CLAMP8 for any tie rule and number of fraction bits (R161). -/
def clamp8With (tie : Config.TieMode) (nf : Nat) (x : Half) : Int := clampInt (roundInt tie nf (asInt x))

/-- ROUND(x) (R160) with the parameters of Config. -/
def round (x : Half) : Int := roundInt Config.tieMode Config.numF (asInt x)

/-- CLAMP8(x) (R161) with the parameters of Config. -/
def clamp8 (x : Half) : Int := clamp8With Config.tieMode Config.numF x

/-- ENC8 (R163): v mod 256 as a byte. -/
def enc8 (v : Int) : Byte := BitVec.ofInt 8 v

/-- The byte of a signed numeric field: ENC8(CLAMP8(x)) (30_encoding.md R127, R131). -/
def numericByte (x : Half) : Byte := enc8 (clamp8 x)

/-- RUNMAP (40_primitives.md R167). -/
def runMap (b : Byte) : RunMode := if b = 0 then .max else if b = 1 then .eco else .unknown

/-- BSMAP (R167). -/
def saverMap (b : Byte) : Saver := if b = 0 then .low else if b = 1 then .mid else if b = 2 then .high else .unknown

/-- UNITMAP (R167, R168): C for every value other than 1. -/
def unitMap (b : Byte) : TempUnit := if b = 1 then .f else .c

/-- BATT_PRESENT (R169): absent exactly for the sentinel. -/
def battPresentOf (b : Byte) : Bool := b != Config.battSentinel

/-- BATT_PCT (R169): the byte, 0 when absent. -/
def battPctOf (b : Byte) : Half := if b = Config.battSentinel then 0 else b.setWidth 16

/-- VOLT_DECI (R170): 10 * integer + fractional, in decivolts. -/
def voltDeciOf (int frac : Byte) : Half := 10 * int.setWidth 16 + frac.setWidth 16

/-- COMPCLASS (R171), its gaps kept. -/
def compClass (vd : Half) : Comp :=
  if Config.compOffFrom ≤ vd.toNat then .off
  else if Config.compOnAbove < vd.toNat ∧ vd.toNat < Config.compOnBelow then .on
  else .unknown

/-- A nonnegative rational num/den rounded to binary64 (53 significant bits, ties to even), in units of 2^-56: exact for
values from 2^-4 to below 2^9, all that R172's float reading of the voltage meets. PRESUMED binary64 (G1), log entry 13. -/
def binary64 (num den : Nat) : Nat :=
  let q := num * 2 ^ 56 / den
  if q = 0 then 0
  else
    let ulp := 2 ^ (Nat.log2 q - 52)
    let below := num * 2 ^ 56 / (den * ulp)
    let rest := num * 2 ^ 56 % (den * ulp)
    let up := den * ulp < 2 * rest ∨ (2 * rest = den * ulp ∧ below % 2 = 1)
    (if up then below + 1 else below) * ulp

/-- The compressor class by the source's float comparisons (40_primitives.md R172). No instruction uses it: it is the
reading that R172 says COMPCLASS on decivolts agrees with. -/
def floatCompClass (int frac : Byte) : Comp :=
  let volts := binary64 (int.toNat * 2 ^ 56 + binary64 frac.toNat 10) (2 ^ 56)
  if binary64 24 1 ≤ volts then .off
  else if binary64 23 1 < volts ∧ volts < binary64 239 10 then .on
  else .unknown

end Sys2Proof.Machine
end

