-- ==== Sys2Proof/Machine/Flags.lean ====
section
/-! DEFINITION. The codes of the enumerations and the status words the read port shows: STATUS, the buffer control
registers, REC_FLAGS and REC_INFO (10_state.md R41, R42, R45, R46, R48). Reserved bits are 0 by the sums' shape
(DEDUCED, log entry 10). -/

namespace Sys2Proof.Machine

/-- DEC_REASON codes (60_exceptions.md R312). -/
def DecReason.code : DecReason → Nat
  | .none => 0
  | .short => 1
  | .sync => 2
  | .lenField => 3
  | .lenMismatch => 4
  | .checksum => 5
  | .cmd => 6
  | .dataShort => 7

/-- TX_CAUSE codes (60_exceptions.md R316). -/
def TxCause.code : TxCause → Nat
  | .none => 0
  | .txdOverflow => 1
  | .badParam => 2

/-- RUN_MODE codes (10_state.md R48). -/
def RunMode.code : RunMode → Nat
  | .max => 0
  | .eco => 1
  | .unknown => 2

/-- BSAVER codes (R48). -/
def Saver.code : Saver → Nat
  | .low => 0
  | .mid => 1
  | .high => 2
  | .unknown => 3

/-- UNIT codes (R48). -/
def TempUnit.code : TempUnit → Nat
  | .c => 0
  | .f => 1

/-- COMP codes (R48). -/
def Comp.code : Comp → Nat
  | .off => 0
  | .on => 1
  | .unknown => 2

/-- STATUS (10_state.md R45). -/
def Status.word (st : Status) : Half :=
  BitVec.ofNat 16 (bit st.decDone + 2 * bit st.decOk + 4 * st.decReason.code + 32 * bit st.decCkDbl + 64 * bit st.txErr
    + 128 * st.txCause.code + 512 * bit st.badOp)

/-- A buffer control register: the fill count, and the overflow flag in bit 15 (R46; TX_CTRL has no flag). -/
def ctrlWord (len : Nat) (ovf : Bool) : Half := BitVec.ofNat 16 (len + 32768 * bit ovf)

/-- REC_FLAGS (R41). -/
def Record.flagsWord (r : Record) : Half :=
  BitVec.ofNat 16 (bit r.valid + 2 * bit r.locked + 4 * bit r.powered + 8 * r.unit.code + 16 * r.runMode.code
    + 64 * r.saver.code + 256 * r.comp.code + 1024 * bit r.battPresent + 2048 * bit r.rightPresent)

/-- REC_INFO (R42). -/
def Record.infoWord (r : Record) : Half := BitVec.ofNat 16 (r.cmd.toNat + 256 * r.dlen.toNat)

/-- STATUS after a request whose OP is or is not reserved: every request writes BAD_OP (60_exceptions.md R320). -/
def Status.withBadOp (st : Status) (b : Bool) : Status := { st with badOp := b }

/-- STATUS after a DECODE (41_rx_parser.md R214, R215): the DEC_* fields, and BAD_OP. -/
def Status.afterDecode (st : Status) (ok : Bool) (r : DecReason) (dbl : Bool) : Status :=
  { st with decDone := true, decOk := ok, decReason := r, decCkDbl := dbl, badOp := false }

/-- STATUS after a TX request (42_tx_framer.md R256, R257): the TX_* fields, and BAD_OP. -/
def Status.afterTx (st : Status) (err : Bool) (c : TxCause) : Status :=
  { st with txErr := err, txCause := c, badOp := false }

end Sys2Proof.Machine
end

