-- ==== Sys2Proof/Machine/Ops.lean ====
section
/-! DEFINITION. The named operations over the buffers and registers that the requests share: reads and writes of buffer
bytes, the pushes, the parameter file, the TX commit, and what stands here for taking an exception: a rejected DECODE
(41_rx_parser.md R215) and a failed TX request (42_tx_framer.md R257). The CORE has no trap and no return from one
(60_exceptions.md R322, R323). -/

namespace Sys2Proof.Machine

/-- The byte at an index of a buffer. -/
def Memory.read : Memory → Nat → Byte
  | [], _ => unlistedByte
  | (k, v) :: m, a => if k = a then v else Memory.read m a

/-- A byte written at an index; the canonical form is kept. -/
def Memory.write : Memory → Nat → Byte → Memory
  | [], a, b => if b = unlistedByte then [] else [(a, b)]
  | (k, v) :: m, a, b =>
    if a < k then if b = unlistedByte then (k, v) :: m else (a, b) :: (k, v) :: m
    else if a = k then if b = unlistedByte then m else (a, b) :: m
    else (k, v) :: Memory.write m a b

/-- MemRead(BUF, 0, n) (00_scope.md R14). -/
def Memory.readBytes (m : Memory) (n : Nat) : List Byte := (List.range n).map (Memory.read m)

/-- MemWrite(BUF, a, len, bytes) (00_scope.md R14). -/
def Memory.writeBytes : Memory → Nat → List Byte → Memory
  | m, _, [] => m
  | m, a, b :: bs => Memory.writeBytes (Memory.write m a b) (a + 1) bs

/-- Every index of the rest lies above a. -/
def Memory.above (a : Nat) : Memory → Bool
  | [] => true
  | (k, _) :: m => a < k && Memory.above a m

/-- The canonical form: indexes strictly rising, no entry equal to what an unlisted index reads as. -/
def Memory.wf : Memory → Bool
  | [] => true
  | (k, v) :: m => v != unlistedByte && Memory.above k m && Memory.wf m

/-- Every listed index lies below a capacity. -/
def Memory.within (cap : Nat) : Memory → Bool
  | [] => true
  | (k, _) :: m => decide (k < cap) && Memory.within cap m

/-- RXBUF[0:RXLEN], the logical receive buffer (10_state.md R34). -/
def State.rxBytes (s : State) : List Byte := s.rxbuf.readBytes s.rxLen.toNat

/-- TXD[0:TXDLEN], the staged data region (R35). -/
def State.txdBytes (s : State) : List Byte := s.txd.readBytes s.txdLen.toNat

/-- TXBUF[0:TXLEN], the ready-to-send frame (R36). -/
def State.txBytes (s : State) : List Byte := s.txbuf.readBytes s.txLen.toNat

/-- BUSY (R33): a request is in flight. -/
def State.busy (s : State) : Bool := s.inFlight.isSome

/-- req_ready (R32): NOT BUSY. -/
def State.reqReady (s : State) : Bool := !s.busy

/-- BAD_OP written, nothing else (60_exceptions.md R320). -/
def State.setBadOp (s : State) (b : Bool) : State := { s with status := s.status.withBadOp b }

/-- RXLEN, RXOVF and BAD_OP to 0; the bytes stay (41_rx_parser.md R190). -/
def State.rxClear (s : State) : State :=
  { s with rxLen := 0, rxOvf := false, status := s.status.withBadOp false }

/-- A byte appended to RXBUF (R193, the accepted push). -/
def State.rxAppend (s : State) (b : Byte) : State :=
  { s with rxbuf := s.rxbuf.write s.rxLen.toNat b, rxLen := s.rxLen + 1, status := s.status.withBadOp false }

/-- A byte discarded because RXBUF is full (R193, the overflowing push). -/
def State.rxDrop (s : State) : State := { s with rxOvf := true, status := s.status.withBadOp false }

/-- Append(RXBUF, b) (R193). -/
def State.rxPushByte (s : State) (b : Byte) : State :=
  if s.rxLen.toNat < Config.rxBufBytes then s.rxAppend b else s.rxDrop

/-- The state RXLOAD leaves: RX.CLR, then each byte pushed (30_encoding.md R133, 41_rx_parser.md R194). -/
def State.rxLoad (s : State) (bytes : List Byte) : State := bytes.foldl State.rxPushByte s.rxClear

/-- TXDLEN, TXDOVF and BAD_OP to 0; the bytes stay (42_tx_framer.md R240). -/
def State.txdClear (s : State) : State :=
  { s with txdLen := 0, txdOvf := false, status := s.status.withBadOp false }

/-- A byte appended to TXD (R243, the accepted push). -/
def State.txdAppend (s : State) (b : Byte) : State :=
  { s with txd := s.txd.write s.txdLen.toNat b, txdLen := s.txdLen + 1, status := s.status.withBadOp false }

/-- A byte discarded because TXD is full (R243, the overflowing push). -/
def State.txdDrop (s : State) : State := { s with txdOvf := true, status := s.status.withBadOp false }

/-- Append(TXD, b) (R243). -/
def State.txdPushByte (s : State) (b : Byte) : State :=
  if s.txdLen.toNat < Config.txdBytes then s.txdAppend b else s.txdDrop

/-- x[P(i)] (10_state.md R37). -/
def State.param (s : State) (i : BitVec 4) : Half := s.params[i.toNat]'i.isLt

/-- P0's bits 15:7 are ignored on write and read 0 (10_state.md R38); every bit of P1 to P15 is kept (R39). -/
def paramMask (i : BitVec 4) (v : Half) : Half := if i = 0 then v &&& 0x007F else v

/-- x[P(i)] written (43_command_marshaller.md R271). -/
def State.setParam (s : State) (i : BitVec 4) (v : Half) : State :=
  { s with params := s.params.set i.toNat (paramMask i v) i.isLt, status := s.status.withBadOp false }

/-- TX commit (42_tx_framer.md R256). -/
def State.txCommit (s : State) (F : List Byte) (ck : Half) : State :=
  { s with txbuf := s.txbuf.writeBytes 0 F, txLen := BitVec.ofNat 9 F.length, txCk := ck,
           status := s.status.afterTx false .none }

/-- raise TxError(cause) (R257): no frame is left, TX_CK keeps its value. -/
def State.txFail (s : State) (c : TxCause) : State := { s with txLen := 0, status := s.status.afterTx true c }

/-- The frame of a data region emitted (R246): every successful TX request ends so. -/
def State.emit (s : State) (D : List Byte) : State := s.txCommit (frameOf D).1 (frameOf D).2

/-- raise Reject(r) (41_rx_parser.md R215): the record and the RX buffer keep their values; DEC_CK receives the checksum
only if step 4 was reached. -/
def State.rejectDecode (s : State) (r : DecReason) (ck : Option Half) : State :=
  { s with decCk := ck.getD s.decCk, status := s.status.afterDecode false r false }

/-- The valid outcome of DECODE (R214): the whole record in one update. -/
def State.commitRecord (s : State) (r : Record) (ck : Half) (dbl : Bool) : State :=
  { s with record := r, decCk := ck, status := s.status.afterDecode true .none dbl }

end Sys2Proof.Machine
end

