-- ==== Sys2Proof/Machine/CommandMarshaller.lean ====
section
/-! DEFINITION. The command marshaller (43_command_marshaller.md): SETP, TARGET, SET. -/

namespace Sys2Proof.Machine

/-- SETP Pi, v (43_command_marshaller.md R271). -/
def execSetp (i : BitVec 4) (v : Half) (s : State) : Host.Outcome State Fault Refusal := .next (s.setParam i v)

/-- The CMD byte of a target frame (R276, 92_eei_decisions.md D14). -/
def zoneCommand : Zone → Byte
  | .left => Config.cmdTargetLeft
  | .right => Config.cmdTargetRight

/-- TARGET z, v (R276). -/
def execTarget (z : Zone) (v : Half) (s : State) : Host.Outcome State Fault Refusal :=
  .next (s.emit [zoneCommand z, numericByte v])

/-- P0's BSAVER field, bits 4:3 (10_state.md R38). -/
def State.paramSaver (s : State) : BitVec 2 := (s.param 0).extractLsb' 3 2

/-- One flag of P0 as a byte 0 or 1 (10_state.md R38, 30_encoding.md R131). -/
def State.paramFlag (s : State) (k : Nat) : Byte := BitVec.ofNat 8 (bit ((s.param 0).getLsbD k))

/-- c(i) of R290: the clamped byte of a parameter register. -/
def State.paramByte (s : State) (i : BitVec 4) : Byte := numericByte (s.param i)

/-- SDELAY[7:0] (R287). -/
def State.startDelayByte (s : State) : Byte := (s.param 5).extractLsb' 0 8

/-- The single-zone BODY of the set frame (R290, R291), data offsets 0x00 to 0x0D. -/
def State.setBodySingle (s : State) : List Byte :=
  [s.paramFlag 0, s.paramFlag 1, s.paramFlag 2, s.paramSaver.setWidth 8, s.paramByte 1, s.paramByte 2, s.paramByte 3,
   s.paramByte 4, s.startDelayByte, s.paramFlag 5, s.paramByte 6, s.paramByte 7, s.paramByte 8, s.paramByte 9]

/-- The dual-zone extension (R290, R292), data offsets 0x0E to 0x18. -/
def State.setBodyRight (s : State) : List Byte :=
  [s.paramByte 10, 0, 0, s.paramByte 11, s.paramByte 12, s.paramByte 13, s.paramByte 14, s.paramByte 15, 0, 0, 0]

/-- The BODY of the set frame: the right zone only when P0.DUAL = 1 (R290, R292). -/
def State.setBody (s : State) : List Byte :=
  if (s.param 0).getLsbD 6 then s.setBodySingle ++ s.setBodyRight else s.setBodySingle

/-- SET (R290): refused with BAD_PARAM when P0.BSAVER = 3 (R284). -/
def execSet (s : State) : Host.Outcome State Fault Refusal :=
  .next (if s.paramSaver = 3 then s.txFail .badParam else s.emit (Config.cmdSet :: s.setBody))

end Sys2Proof.Machine
end

