-- ==== Sys2Proof/Machine/Control.lean ====
section
/-! DEFINITION. The control requests (44_control.md): NOP and the reserved op codes. -/

namespace Sys2Proof.Machine

/-- NOP (44_control.md R300). -/
def execNop (s : State) : Host.Outcome State Fault Refusal := .next (s.setBadOp false)

/-- A reserved op code: a no-op that sets BAD_OP (R303). -/
def reservedOp (s : State) : State := s.setBadOp true

/-- Reserved OP 0xC (R303). -/
def execReservedC (s : State) : Host.Outcome State Fault Refusal := .next (reservedOp s)

/-- Reserved OP 0xD (R303). -/
def execReservedD (s : State) : Host.Outcome State Fault Refusal := .next (reservedOp s)

/-- Reserved OP 0xE (R303). -/
def execReservedE (s : State) : Host.Outcome State Fault Refusal := .next (reservedOp s)

/-- Reserved OP 0xF (R303). -/
def execReservedF (s : State) : Host.Outcome State Fault Refusal := .next (reservedOp s)

end Sys2Proof.Machine
end

