-- ==== Sys2Proof/Machine/RxParser.lean ====
section
/-! DEFINITION. The RX parser (41_rx_parser.md): RX.CLR, RX.PUSH, DECODE. -/

namespace Sys2Proof.Machine

/-- RX.CLR (41_rx_parser.md R190). -/
def execRxClr (s : State) : Host.Outcome State Fault Refusal := .next s.rxClear

/-- RX.PUSH b (R193). -/
def execRxPush (b : Byte) (s : State) : Host.Outcome State Fault Refusal := .next (s.rxPushByte b)

/-- What the validation of DECODE finds: a reason with the checksum if step 4 computed it, or a valid frame's checksum
and whether it matched only the doubled form. -/
inductive Verdict where
  | reject (r : DecReason) (ck : Option Half)
  | valid (ck : Half) (dbl : Bool)
  deriving DecidableEq, Repr

/-- Validation steps 5 and 6 (R206, R208), after the checksum matched. -/
def judgeCommand (B : List Byte) (ck : Half) (dbl : Bool) : Verdict :=
  if byteAt B 3 ≠ Config.cmdTelemetrySingle ∧ byteAt B 3 ≠ Config.cmdTelemetryDual then .reject .cmd (some ck)
  else if (byteAt B 2).toNat - 3 < Config.singleMin then .reject .dataShort (some ck)
  else .valid ck dbl

/-- Validation step 4 (R205): the big-endian trailer against the plain, then the doubled checksum. -/
def judgeChecksum (B : List Byte) : Verdict :=
  let ck := ck16 (B.take (B.length - 2))
  match ckMatch ck (extract B (B.length - 2) .two .be .u) with
  | .none => .reject .checksum (some ck)
  | .plain => judgeCommand B ck false
  | .doubled => judgeCommand B ck true

/-- The validation of DECODE (R200 to R208): the steps in the source's order, the first failure decides (R207). -/
def judge (ovf : Bool) (B : List Byte) : Verdict :=
  if ovf = false ∧ B.length < Config.minFrame then .reject .short none
  else if byteAt B 0 ≠ Config.sync ∨ byteAt B 1 ≠ Config.sync then .reject .sync none
  else if (byteAt B 2).toNat < Config.minLen then .reject .lenField none
  else if ovf = true ∨ 3 + (byteAt B 2).toNat ≠ B.length then .reject .lenMismatch none
  else judgeChecksum B

/-- A signed record field: EXTRACT(D, o, 1, -, S) (R211). -/
def signedField (D : List Byte) (o : Nat) : Half := extract D o .one .be .s

/-- An unsigned record field: EXTRACT(D, o, 1, -, U) (R211). -/
def unsignedField (D : List Byte) (o : Nat) : Half := extract D o .one .be .u

/-- The single-zone fields (R211), with every right-zone field absent (R213). -/
def singleRecord (D : List Byte) (c d : Byte) : Record where
  valid := true
  locked := boolOf (byteAt D 0x00)
  powered := boolOf (byteAt D 0x01)
  unit := unitMap (byteAt D 0x09)
  runMode := runMap (byteAt D 0x02)
  saver := saverMap (byteAt D 0x03)
  comp := compClass (voltDeciOf (byteAt D 0x10) (byteAt D 0x11))
  battPresent := battPresentOf (byteAt D 0x0F)
  rightPresent := false
  cmd := c
  dlen := d
  leftTarget := signedField D 0x04
  tempMax := signedField D 0x05
  tempMin := signedField D 0x06
  leftHyst := signedField D 0x07
  startDelay := unsignedField D 0x08
  lHot := signedField D 0x0A
  lMid := signedField D 0x0B
  lCold := signedField D 0x0C
  lHalt := signedField D 0x0D
  leftCurrent := signedField D 0x0E
  battPct := battPctOf (byteAt D 0x0F)
  voltInt := unsignedField D 0x10
  voltFrac := unsignedField D 0x11
  voltDeci := voltDeciOf (byteAt D 0x10) (byteAt D 0x11)
  rightTarget := 0
  rHyst := 0
  rHot := 0
  rMid := 0
  rCold := 0
  rHalt := 0
  rightCurrent := 0
  runStatus := 0

/-- The right-zone fields added (R212). -/
def Record.withRightZone (r : Record) (D : List Byte) : Record :=
  { r with
    rightPresent := true
    rightTarget := signedField D 0x12
    rHyst := signedField D 0x15
    rHot := signedField D 0x16
    rMid := signedField D 0x17
    rCold := signedField D 0x18
    rHalt := signedField D 0x19
    rightCurrent := signedField D 0x1A
    runStatus := unsignedField D 0x1B }

/-- EXTRACT_RECORD(D, c, d) (R200, R211 to R213): the data length alone decides the right zone (90_conflicts.md C6). -/
def extractRecord (D : List Byte) (c d : Byte) : Record :=
  if Config.dualMin ≤ d.toNat then (singleRecord D c d).withRightZone D else singleRecord D c d

/-- The record of a valid frame B: D = B[4 : 4+d], c = B[3], d = LEN - 3 (R200, R210). -/
def frameRecord (B : List Byte) : Record :=
  extractRecord ((B.drop 4).take ((byteAt B 2).toNat - 3)) (byteAt B 3) (byteAt B 2 - 3)

/-- The state DECODE leaves (R200, R214, R215). -/
def State.decodeRx (s : State) : State :=
  match judge s.rxOvf s.rxBytes with
  | .reject r ck => s.rejectDecode r ck
  | .valid ck dbl => s.commitRecord (frameRecord s.rxBytes) ck dbl

/-- DECODE (R200). -/
def execDecode (s : State) : Host.Outcome State Fault Refusal := .next s.decodeRx

end Sys2Proof.Machine
end

