-- ==== Sys2Proof/Machine/TxFramer.lean ====
section
/-! DEFINITION. The TX framer (42_tx_framer.md): TXD.CLR, TXD.PUSH, FRAME, BIND, QUERY. -/

namespace Sys2Proof.Machine

/-- TXD.CLR (42_tx_framer.md R240). -/
def execTxdClr (s : State) : Host.Outcome State Fault Refusal := .next s.txdClear

/-- TXD.PUSH b (R243). -/
def execTxdPush (b : Byte) (s : State) : Host.Outcome State Fault Refusal := .next (s.txdPushByte b)

/-- FRAME (R245). -/
def execFrame (s : State) : Host.Outcome State Fault Refusal :=
  .next (if s.txdOvf then s.txFail .txdOverflow else s.emit s.txdBytes)

/-- BIND (R250): a fixed constant (90_conflicts.md C8). -/
def execBind (s : State) : Host.Outcome State Fault Refusal := .next (s.txCommit Config.bindFrame Config.bindCk)

/-- QUERY (R253): a fixed constant (90_conflicts.md C8). -/
def execQuery (s : State) : Host.Outcome State Fault Refusal := .next (s.txCommit Config.queryFrame Config.queryCk)

end Sys2Proof.Machine
end

