-- ==== Sys2Proof/WellFormed.lean ====
section
/-! DEFINITION. Well-formed instructions: what an encoding can carry beyond the operands' types. Every request is
well-formed as it stands (30_encoding.md R118); a wire frame's BODY has the length and the bytes its command gives it. -/

namespace Sys2Proof

/-- A telemetry BODY fits the one-byte LEN: LEN = len(BODY) + 3 (30_encoding.md R120, R122). -/
def bodyFits (body : List Byte) : Bool := body.length ≤ 252

/-- The BODY of a set frame (30_encoding.md R127, R131): 14 bytes single zone or 25 dual; the flags and the run mode 0 or 1,
the battery saver 0 to 2, the unit flag 0 or 1, the dual zone's reserved bytes 0. -/
def setBodyOk : List Byte → Bool
  | [lock, power, mode, saver, _, _, _, _, _, unit, _, _, _, _] =>
    lock ≤ 1 && power ≤ 1 && mode ≤ 1 && saver ≤ 2 && unit ≤ 1
  | [lock, power, mode, saver, _, _, _, _, _, unit, _, _, _, _, _, r0, r1, _, _, _, _, _, r2, r3, r4] =>
    lock ≤ 1 && power ≤ 1 && mode ≤ 1 && saver ≤ 2 && unit ≤ 1 &&
      r0 == 0 && r1 == 0 && r2 == 0 && r3 == 0 && r4 == 0
  | _ => false

/-- Which instructions are well-formed. -/
def Instr.wf : Instr → Bool
  | .nop => true
  | .rxClr => true
  | .rxPush _ => true
  | .decode => true
  | .txdClr => true
  | .txdPush _ => true
  | .frame => true
  | .bind => true
  | .query => true
  | .target _ _ => true
  | .setp _ _ => true
  | .set => true
  | .reservedC => true
  | .reservedD => true
  | .reservedE => true
  | .reservedF => true
  | .wireBind => true
  | .wireQuery => true
  | .wireTelemetrySingle body _ => bodyFits body
  | .wireSet body => setBodyOk body
  | .wireTelemetryDual body _ => bodyFits body
  | .wireTargetLeft _ => true
  | .wireTargetRight _ => true

end Sys2Proof
end

