-- ==== Sys2Proof/Decode.lean ====
section
/-! DEFINITION. The decoder (30_encoding.md), total on every request word and rejecting by name the bytes that are no
frame of the wire table; after it the encoder, the table's word reading, and the assembler's part of R132 and R133. -/

namespace Sys2Proof

/-- OP: bits 31:28 (30_encoding.md R110). -/
def opField (w : ReqWord) : BitVec 4 := w.extractLsb' 28 4
/-- BYTE: bits 7:0 of format B (R112). -/
def byteField (w : ReqWord) : Byte := w.extractLsb' 0 8
/-- ZONE: bit 16 of format T (R113). -/
def zoneField (w : ReqWord) : Zone := if w.getLsbD 16 then .right else .left
/-- IDX: bits 19:16 of format P (R114). -/
def idxField (w : ReqWord) : BitVec 4 := w.extractLsb' 16 4
/-- VALUE: bits 15:0 of formats T and P (R113, R114). -/
def valueField (w : ReqWord) : Half := w.extractLsb' 0 16

/-- The request decoder: total, it reads OP and the fields of that OP's format and nothing else (R117, R119). -/
def decodeRequest (w : ReqWord) : Instr :=
  match (opField w).toNat with
  | 0x0 => .nop
  | 0x1 => .rxClr
  | 0x2 => .rxPush (byteField w)
  | 0x3 => .decode
  | 0x4 => .txdClr
  | 0x5 => .txdPush (byteField w)
  | 0x6 => .frame
  | 0x7 => .bind
  | 0x8 => .query
  | 0x9 => .target (zoneField w) (valueField w)
  | 0xA => .setp (idxField w) (valueField w)
  | 0xB => .set
  | 0xC => .reservedC
  | 0xD => .reservedD
  | 0xE => .reservedE
  | _ => .reservedF

/-- The BODY of a frame of n bytes: frame indexes 4 to n-3 (R121). -/
def frameBody (bytes : List Byte) : List Byte := (bytes.drop 4).take (bytes.length - 6)

/-- The trailer of a frame of n bytes, read big-endian at index n-2 (20_memory.md R83). -/
def frameTrailer (bytes : List Byte) : Half := extract bytes (bytes.length - 2) .two .be .u

/-- What makes bytes a frame in either direction (R120): the length, the sync bytes, LEN. -/
def frameShape (bytes : List Byte) : Except FrameError Unit :=
  if bytes.length < Config.minFrame then .error .tooShort
  else if byteAt bytes 0 ≠ Config.sync ∨ byteAt bytes 1 ≠ Config.sync then .error .badSync
  else if 3 + (byteAt bytes 2).toNat ≠ bytes.length then .error .badLength
  else .ok ()

/-- The inbound wire decoder: CMD 0x01 or 0x02 (R123, R124). The trailer is an operand: DECODE judges it. -/
def decodeIn (bytes : List Byte) : Except FrameError Instr :=
  match frameShape bytes with
  | .error e => .error e
  | .ok _ =>
    if byteAt bytes 3 = Config.cmdTelemetrySingle then
      .ok (.wireTelemetrySingle (frameBody bytes) (frameTrailer bytes))
    else if byteAt bytes 3 = Config.cmdTelemetryDual then
      .ok (.wireTelemetryDual (frameBody bytes) (frameTrailer bytes))
    else .error (.badCommand (byteAt bytes 3))

/-- The outbound command an outbound CMD byte and BODY name (R123, R127 to R129). -/
def outCommand (cmd : Byte) (body : List Byte) : Except FrameError Instr :=
  if cmd = Config.cmdBind then if body = [] then .ok .wireBind else .error .badBody
  else if cmd = Config.cmdQuery then if body = [] then .ok .wireQuery else .error .badBody
  else if cmd = Config.cmdSet then if setBodyOk body then .ok (.wireSet body) else .error .badBody
  else if cmd = Config.cmdTargetLeft then
    match body with
    | [t] => .ok (.wireTargetLeft t)
    | _ => .error .badBody
  else if cmd = Config.cmdTargetRight then
    match body with
    | [t] => .ok (.wireTargetRight t)
    | _ => .error .badBody
  else .error (.badCommand cmd)

/-- The outbound wire decoder: a frame the CORE emits has the plain checksum, never the doubled (40_primitives.md R165). -/
def decodeOut (bytes : List Byte) : Except FrameError Instr :=
  match frameShape bytes with
  | .error e => .error e
  | .ok _ =>
    if frameTrailer bytes = ck16 (bytes.take (bytes.length - 2)) then outCommand (byteAt bytes 3) (frameBody bytes)
    else .error .badChecksum

/-- The decoder: total on every item. -/
def decodeItem : Item → Except FrameError Instr
  | .request w => .ok (decodeRequest w)
  | .frameIn bytes => decodeIn bytes
  | .frameOut bytes => decodeOut bytes

/-- A request word from OP, the field at bit 16 and the field at bit 0, every ignored bit 0 (30_encoding.md R134). -/
def requestWord (op hi lo : Nat) : ReqWord := BitVec.ofNat 32 (op * 0x10000000 + hi * 0x10000 + lo)

/-- The ZONE bit of a zone (R113). -/
def zoneBit : Zone → Nat
  | .left => 0
  | .right => 1

/-- The bytes of an inbound frame with this CMD, BODY and trailer (R120). -/
def inboundBytes (cmd : Byte) (body : List Byte) (ck : Half) : List Byte :=
  frameHead (cmd :: body) ++ trailer ck

/-- The encoder: the request word of a request (R134), the frame of a wire row (R120, R127 to R129). -/
def encode : Instr → Item
  | .nop => .request (requestWord 0x0 0 0)
  | .rxClr => .request (requestWord 0x1 0 0)
  | .rxPush b => .request (requestWord 0x2 0 b.toNat)
  | .decode => .request (requestWord 0x3 0 0)
  | .txdClr => .request (requestWord 0x4 0 0)
  | .txdPush b => .request (requestWord 0x5 0 b.toNat)
  | .frame => .request (requestWord 0x6 0 0)
  | .bind => .request (requestWord 0x7 0 0)
  | .query => .request (requestWord 0x8 0 0)
  | .target z v => .request (requestWord 0x9 (zoneBit z) v.toNat)
  | .setp i v => .request (requestWord 0xA i.toNat v.toNat)
  | .set => .request (requestWord 0xB 0 0)
  | .reservedC => .request (requestWord 0xC 0 0)
  | .reservedD => .request (requestWord 0xD 0 0)
  | .reservedE => .request (requestWord 0xE 0 0)
  | .reservedF => .request (requestWord 0xF 0 0)
  | .wireBind => .frameOut (frameOf [Config.cmdBind]).1
  | .wireQuery => .frameOut (frameOf [Config.cmdQuery]).1
  | .wireTelemetrySingle body ck => .frameIn (inboundBytes Config.cmdTelemetrySingle body ck)
  | .wireSet body => .frameOut (frameOf (Config.cmdSet :: body)).1
  | .wireTelemetryDual body ck => .frameIn (inboundBytes Config.cmdTelemetryDual body ck)
  | .wireTargetLeft t => .frameOut (frameOf [Config.cmdTargetLeft, t]).1
  | .wireTargetRight t => .frameOut (frameOf [Config.cmdTargetRight, t]).1

/-- The item of a wire row whose table bits are the CMD byte alone, every operand 0. CMD 0x01 and 0x02 stand for two
rows each: the inbound one is read, since the CORE decodes inbound frames only (R124). DESIGN CHOICE, log entry 9. -/
def wireTableItem (cmd : Byte) : Item :=
  if cmd = Config.cmdTelemetrySingle ∨ cmd = Config.cmdTelemetryDual then .frameIn (inboundBytes cmd [] 0)
  else if cmd = Config.cmdTargetLeft ∨ cmd = Config.cmdTargetRight then .frameOut (frameOf [cmd, 0]).1
  else .frameOut (frameOf [cmd]).1

/-- The item whose bits the opcode table numbers as w: an 8-bit row is a wire row's CMD byte, any other a request word. -/
def tableItem (nbits w : Nat) : Item :=
  if nbits ≤ 8 then wireTableItem (BitVec.ofNat 8 w) else .request (BitVec.ofNat 32 w)

/-- The instruction the decoder reads from an instruction whose bits are w (none where it rejects). -/
def decodeTableWord (nbits w : Nat) : Option Instr :=
  match decodeItem (tableItem nbits w) with
  | .ok i => some i
  | .error _ => none

/-- The assembler's numeric operand (R132): the decimal m / 10^places, refused unless it is exactly representable. -/
def assembleNumeric (m : Int) (places : Nat) : Option Half :=
  let scaled := m * 2 ^ Config.numF
  if scaled % 10 ^ places = 0 ∧ -32768 ≤ scaled / 10 ^ places ∧ scaled / 10 ^ places ≤ 32767 then
    some (BitVec.ofInt 16 (scaled / 10 ^ places))
  else none

/-- RXLOAD (R133). -/
def expandRxLoad (bytes : List Byte) : List Instr := .rxClr :: bytes.map .rxPush
/-- RXFRAME (R133). -/
def expandRxFrame (bytes : List Byte) : List Instr := expandRxLoad bytes ++ [.decode]
/-- TXFRAME (R133). -/
def expandTxFrame (bytes : List Byte) : List Instr := .txdClr :: bytes.map .txdPush ++ [.frame]
/-- SETP.FLAGS (R133). -/
def expandSetpFlags (lock power mode : Bool) (saver : BitVec 2) (unit dual : Bool) : List Instr :=
  [.setp 0 (BitVec.ofNat 16 (bit lock + 2 * bit power + 4 * bit mode + 8 * saver.toNat + 32 * bit unit + 64 * bit dual))]
/-- TARGET.L (R133). -/
def expandTargetLeft (v : Half) : List Instr := [.target .left v]
/-- TARGET.R (R133). -/
def expandTargetRight (v : Half) : List Instr := [.target .right v]

end Sys2Proof
end

