-- ==== Sys2Proof/Machine/WireFrames.lean ====
section
/-! DEFINITION. The wire rows of the opcode table (30_encoding.md R123), which are frames and no requests. DESIGN CHOICE,
log entry 8: an inbound frame has the effect of the requests that bring it in, RXFRAME of its bytes (R133, R200); an
outbound frame has the effect every request that emits it ends in, the TX commit of that frame (42_tx_framer.md R246,
R256). -/

namespace Sys2Proof.Machine

/-- RXFRAME (30_encoding.md R133): the bytes loaded, then DECODE. -/
def State.rxFrame (s : State) (bytes : List Byte) : State := (s.rxLoad bytes).decodeRx

/-- A data region emitted, or TXD_OVERFLOW where no LEN byte can describe it (60_exceptions.md R316). A well-formed wire
instruction's data region always fits. -/
def State.emitRegion (s : State) (D : List Byte) : State :=
  if D.length ≤ Config.txdBytes then s.emit D else s.txFail .txdOverflow

/-- The outbound bind frame (30_encoding.md R123, R129; handled by BIND, R250). -/
def execWireBind (s : State) : Host.Outcome State Fault Refusal := .next (s.emitRegion [Config.cmdBind])

/-- The outbound query frame (R123, R129; handled by QUERY, R253). -/
def execWireQuery (s : State) : Host.Outcome State Fault Refusal := .next (s.emitRegion [Config.cmdQuery])

/-- An inbound CMD 0x01 frame (R123, R125; handled by DECODE, R200). -/
def execWireTelemetrySingle (body : List Byte) (ck : Half) (s : State) : Host.Outcome State Fault Refusal :=
  .next (s.rxFrame (inboundBytes Config.cmdTelemetrySingle body ck))

/-- The outbound set frame with this BODY (R123, R127; handled by SET, R290). -/
def execWireSet (body : List Byte) (s : State) : Host.Outcome State Fault Refusal :=
  .next (s.emitRegion (Config.cmdSet :: body))

/-- An inbound CMD 0x02 frame (R123, R125; handled by DECODE, R200). -/
def execWireTelemetryDual (body : List Byte) (ck : Half) (s : State) : Host.Outcome State Fault Refusal :=
  .next (s.rxFrame (inboundBytes Config.cmdTelemetryDual body ck))

/-- The outbound left-zone target frame (R123, R128; handled by TARGET with ZONE = 0, R276). -/
def execWireTargetLeft (t : Byte) (s : State) : Host.Outcome State Fault Refusal :=
  .next (s.emitRegion [Config.cmdTargetLeft, t])

/-- The outbound right-zone target frame (R123, R128; handled by TARGET with ZONE = 1, R276). -/
def execWireTargetRight (t : Byte) (s : State) : Host.Outcome State Fault Refusal :=
  .next (s.emitRegion [Config.cmdTargetRight, t])

end Sys2Proof.Machine
end

