-- ==== Sys2Proof/Machine/Dispatch.lean ====
section
/-! DEFINITION. One arm per instruction, each a direct call of its meaning. -/

namespace Sys2Proof.Machine

def exec (i : Instr) (s : State) : Host.Outcome State Fault Refusal :=
  match i with
  | .nop => Sys2Proof.Machine.execNop s
  | .rxClr => Sys2Proof.Machine.execRxClr s
  | .rxPush b => Sys2Proof.Machine.execRxPush b s
  | .decode => Sys2Proof.Machine.execDecode s
  | .txdClr => Sys2Proof.Machine.execTxdClr s
  | .txdPush b => Sys2Proof.Machine.execTxdPush b s
  | .frame => Sys2Proof.Machine.execFrame s
  | .bind => Sys2Proof.Machine.execBind s
  | .query => Sys2Proof.Machine.execQuery s
  | .target z v => Sys2Proof.Machine.execTarget z v s
  | .setp k v => Sys2Proof.Machine.execSetp k v s
  | .set => Sys2Proof.Machine.execSet s
  | .reservedC => Sys2Proof.Machine.execReservedC s
  | .reservedD => Sys2Proof.Machine.execReservedD s
  | .reservedE => Sys2Proof.Machine.execReservedE s
  | .reservedF => Sys2Proof.Machine.execReservedF s
  | .wireBind => Sys2Proof.Machine.execWireBind s
  | .wireQuery => Sys2Proof.Machine.execWireQuery s
  | .wireTelemetrySingle body ck => Sys2Proof.Machine.execWireTelemetrySingle body ck s
  | .wireSet body => Sys2Proof.Machine.execWireSet body s
  | .wireTelemetryDual body ck => Sys2Proof.Machine.execWireTelemetryDual body ck s
  | .wireTargetLeft t => Sys2Proof.Machine.execWireTargetLeft t s
  | .wireTargetRight t => Sys2Proof.Machine.execWireTargetRight t s

end Sys2Proof.Machine
end

