-- ==== Sys2Proof/Machine/ReadPort.lean ====
section
/-! DEFINITION. The read port (10_state.md R49, 20_memory.md R88, R89): a 12-bit space of 16-bit locations. -/

namespace Sys2Proof.Machine

/-- The record value registers in address order, 0x008 to 0x01D (10_state.md R43). -/
def Record.valueWords (r : Record) : List Half :=
  [r.leftTarget, r.tempMax, r.tempMin, r.leftHyst, r.startDelay, r.lHot, r.lMid, r.lCold, r.lHalt, r.leftCurrent,
   r.battPct, r.voltInt, r.voltFrac, r.voltDeci, r.rightTarget, r.rHyst, r.rHot, r.rMid, r.rCold, r.rHalt,
   r.rightCurrent, r.runStatus]

/-- The registers at 0x000 to 0x01D in address order (R49). -/
def State.registerWords (s : State) : List Half :=
  [s.status.word, ctrlWord s.rxLen.toNat s.rxOvf, ctrlWord s.txdLen.toNat s.txdOvf, ctrlWord s.txLen.toNat false,
   s.decCk, s.txCk, s.record.flagsWord, s.record.infoWord] ++ s.record.valueWords

/-- A location of a buffer window: the byte zero-extended, 0 at or above the fill count (20_memory.md R89). -/
def windowWord (m : Memory) (len k : Nat) : Half := if k < len then (m.read k).setWidth 16 else 0

/-- The location at an address in a state with no request in flight (10_state.md R49); reserved locations read 0. -/
def State.location (s : State) (a : BitVec 12) : Half :=
  let n := a.toNat
  if n < 0x020 then s.registerWords.getD n 0
  else if n < 0x030 then s.params.toList.getD (n - 0x020) 0
  else if n < 0x400 then 0
  else if n < 0x600 then windowWord s.rxbuf s.rxLen.toNat (n - 0x400)
  else if n < 0x800 then windowWord s.txd s.txdLen.toNat (n - 0x600)
  else if n < 0xA00 then windowWord s.txbuf s.txLen.toNat (n - 0x800)
  else 0

/-- rd_data for an address (20_memory.md R88): the location, or a free value while BUSY (70_reset_and_hazards.md R360). -/
def State.readPort (s : State) (a : BitVec 12) : Half :=
  if s.busy then Config.busyReadData s.draws a else s.location a

/-- rd_data (10_state.md R32). -/
def State.rdData (s : State) : Half := s.readPort s.rdAddr

end Sys2Proof.Machine
end

