-- ==== Sys2Proof/Machine/Handshake.lean ====
section
/-! DEFINITION. The request port, rst and the read address pin (10_state.md R32, R33; 70_reset_and_hazards.md R350, R360,
R361): how an offered item is accepted, how the one in flight completes, and what rst and a read do. -/

namespace Sys2Proof.Machine

/-- A request accepted: BUSY becomes 1, and nothing else of the CORE changes (10_state.md R33). The host's action list
goes on with `rest`; the read draws made while BUSY are fresh (log entry 4). -/
def State.accept (s : State) (it : Item) (rest : List HostAction) : State :=
  { s with inFlight := some it, inbox := rest, draws := s.draws + 1 }

/-- BUSY back to 0 (R33). -/
def State.ready (s : State) : State := { s with inFlight := none }

/-- The item in flight completes: its writes all land together (20_memory.md R95) and BUSY is 0. Received bytes that are
no frame of the wire table still have the effect of loading and decoding them, which rejects them (41_rx_parser.md R200). -/
def complete (it : Item) (s : State) : Host.Outcome State Fault Refusal :=
  match decodeItem it with
  | .ok i => exec i s.ready
  | .error e =>
    match it with
    | .request _ => .refused (.notOutboundFrame e)
    | .frameIn bytes => .next (s.ready.rxFrame bytes)
    | .frameOut _ => .refused (.notOutboundFrame e)

/-- rst (70_reset_and_hazards.md R350): every piece of the CORE's state at its reset value, a request in flight abandoned.
The host's side stays: its remaining actions, the address pin it drives, the model's draw counter (log entry 12). -/
def State.assertReset (s : State) (rest : List HostAction) : State :=
  { State.reset with inbox := rest, rdAddr := s.rdAddr, draws := s.draws }

/-- The host drives rd_addr (20_memory.md R88): the CORE's state does not change. -/
def State.driveRead (s : State) (a : BitVec 12) (rest : List HostAction) : State :=
  { s with rdAddr := a, inbox := rest, draws := s.draws + 1 }

/-- The host's wait for req_ready is over. -/
def State.dropWait (s : State) (rest : List HostAction) : State := { s with inbox := rest }

/-- A step in which the host does nothing to rst or rd_addr: the item in flight completes, else the machine does `idle`. -/
def completeOr (s : State) (idle : State) : Host.Outcome State Fault Refusal :=
  match s.inFlight with
  | some it => complete it s
  | none => .next idle

/-- One step: rst and rd_addr act at once; an item in flight completes before the next is accepted (R361); a ready CORE
accepts what is offered, and holds its state when nothing is (60_exceptions.md R335). -/
def stepBody (s : State) : Host.Outcome State Fault Refusal :=
  match s.inbox with
  | .reset :: rest => .next (s.assertReset rest)
  | .read a :: rest => .next (s.driveRead a rest)
  | .awaitReady :: rest => completeOr s (s.dropWait rest)
  | .offer it :: rest => completeOr s (s.accept it rest)
  | [] => completeOr s s

/-- An item placed in flight, with the host waiting for it, so that the next step completes it. -/
def State.placeItem (s : State) (it : Item) : State :=
  { s with inFlight := some it, inbox := .awaitReady :: s.inbox }

end Sys2Proof.Machine
end

