-- ==== Sys2Proof/Machine/Step.lean ====
section
/-! DEFINITION. The step, and the placing of an instruction where the step takes its next one from. -/

namespace Sys2Proof.Machine

/-- One step of the machine (10_state.md R30, 20_memory.md R95). -/
def step (s : State) : Host.Outcome State Fault Refusal := stepBody s

/-- The instruction whose bits the opcode table numbers as w, accepted and in flight, so that the next step runs it
(log entries 1, 2 and 9). -/
def State.withFetchWord (s : State) (nbits w : Nat) : State := s.placeItem (tableItem nbits w)

end Sys2Proof.Machine
end

