-- ==== Sys2Proof/Safety.lean ====
section
/-! DEFINITION. The terms the statements are made in: the invariant every step keeps, what two states show alike, the
frames (which part of the state is as before), the families of instructions, and running instructions in sequence. -/

namespace Sys2Proof

/-- The families of instructions by the state they write (10_state.md R50): outbound frames are TX requests here, and an
inbound frame is a family of its own, since it brings RX.CLR, RX.PUSH and DECODE with it. -/
inductive Family where
  | nop
  | reserved
  | rxBuffer
  | decode
  | txdBuffer
  | tx
  | params
  | inbound
  deriving DecidableEq, Repr

/-- The family of each instruction. -/
def Instr.family : Instr → Family
  | .nop => .nop
  | .rxClr => .rxBuffer
  | .rxPush _ => .rxBuffer
  | .decode => .decode
  | .txdClr => .txdBuffer
  | .txdPush _ => .txdBuffer
  | .frame => .tx
  | .bind => .tx
  | .query => .tx
  | .target _ _ => .tx
  | .setp _ _ => .params
  | .set => .tx
  | .reservedC => .reserved
  | .reservedD => .reserved
  | .reservedE => .reserved
  | .reservedF => .reserved
  | .wireBind => .tx
  | .wireQuery => .tx
  | .wireTelemetrySingle _ _ => .inbound
  | .wireSet _ => .tx
  | .wireTelemetryDual _ _ => .inbound
  | .wireTargetLeft _ => .tx
  | .wireTargetRight _ => .tx

/-- The instruction changes the RX buffer. -/
def Instr.writesRx (i : Instr) : Bool := i.family = .rxBuffer ∨ i.family = .inbound

/-- The instruction changes the TX data staging buffer. -/
def Instr.writesTxd (i : Instr) : Bool := i.family = .txdBuffer

/-- The instruction is a TX request (10_state.md R45) or an outbound frame. -/
def Instr.isTx (i : Instr) : Bool := i.family = .tx

/-- The instruction decodes the RX buffer. -/
def Instr.isDecode (i : Instr) : Bool := i.family = .decode ∨ i.family = .inbound

/-- The instruction writes a parameter register. -/
def Instr.writesParams (i : Instr) : Bool := i.family = .params

/-- The instruction is a reserved op code (44_control.md R303). -/
def Instr.isReserved (i : Instr) : Bool := i.family = .reserved

/-- The bits of a request word that its OP's format reads (30_encoding.md R111 to R114). -/
def operandMask (w : ReqWord) : ReqWord :=
  let op := (w >>> 28).toNat
  if op = 0x2 ∨ op = 0x5 then 0xF00000FF
  else if op = 0x9 then 0xF001FFFF
  else if op = 0xA then 0xF00FFFFF
  else 0xF0000000

end Sys2Proof

namespace Sys2Proof.Machine

/-- What holds of STATUS between requests (10_state.md R45, 60_exceptions.md R312, R316). -/
structure Status.Inv (st : Status) : Prop where
  okDone : st.decOk = true → st.decDone = true
  reason : st.decReason = .none ↔ (st.decOk = true ∨ st.decDone = false)
  dblOk : st.decCkDbl = true → st.decOk = true
  txCause : st.txErr = true ↔ st.txCause ≠ .none

/-- A signed record register holds the sign extension of a byte (10_state.md R44). -/
def signedByte (h : Half) : Prop := ∃ b : Byte, h = b.signExtend 16

/-- An unsigned record register holds the zero extension of a byte (10_state.md R44). -/
def unsignedByte (h : Half) : Prop := ∃ b : Byte, h = b.setWidth 16

/-- What holds of a record that a DECODE wrote (10_state.md R41 to R44, 41_rx_parser.md R211 to R213). -/
structure Record.Written (r : Record) : Prop where
  cmd : r.cmd = Config.cmdTelemetrySingle ∨ r.cmd = Config.cmdTelemetryDual
  dlen : 18 ≤ r.dlen.toNat ∧ r.dlen.toNat ≤ 252
  right : r.rightPresent = true ↔ 28 ≤ r.dlen.toNat
  absent : r.rightPresent = false → r.rightTarget = 0 ∧ r.rHyst = 0 ∧ r.rHot = 0 ∧ r.rMid = 0 ∧ r.rCold = 0 ∧
    r.rHalt = 0 ∧ r.rightCurrent = 0 ∧ r.runStatus = 0
  batt : (r.battPresent = false → r.battPct = 0) ∧ (r.battPresent = true → unsignedByte r.battPct ∧ r.battPct ≠ 0x7F)
  signed : ∀ h ∈ [r.leftTarget, r.tempMax, r.tempMin, r.leftHyst, r.lHot, r.lMid, r.lCold, r.lHalt, r.leftCurrent,
    r.rightTarget, r.rHyst, r.rHot, r.rMid, r.rCold, r.rHalt, r.rightCurrent], signedByte h
  unsigned : ∀ h ∈ [r.startDelay, r.voltInt, r.voltFrac, r.runStatus], unsignedByte h
  volt : r.voltDeci.toNat = 10 * r.voltInt.toNat + r.voltFrac.toNat
  comp : r.comp = compClass r.voltDeci

/-- TXBUF is empty or holds one whole frame, whose checksum is TX_CK (20_memory.md R91, 42_tx_framer.md R256, R257). -/
def State.TxWhole (s : State) : Prop :=
  s.txLen = 0 ∨ ∃ D : List Byte, D.length ≤ 253 ∧ s.txBytes = (frameOf D).1 ∧ s.txCk = (frameOf D).2

/-- The invariant of the machine: it holds after reset and every step keeps it. -/
structure State.Inv (s : State) : Prop where
  rxWf : s.rxbuf.wf = true
  txdWf : s.txd.wf = true
  txWf : s.txbuf.wf = true
  rxWithin : s.rxbuf.within Config.rxBufBytes = true
  txdWithin : s.txd.within Config.txdBytes = true
  txWithin : s.txbuf.within Config.txBufBytes = true
  rxLen : s.rxLen.toNat ≤ Config.rxBufBytes
  txdLen : s.txdLen.toNat ≤ Config.txdBytes
  txLen : s.txLen.toNat ≤ Config.txBufBytes
  rxOvf : s.rxOvf = true → s.rxLen.toNat = Config.rxBufBytes
  txdOvf : s.txdOvf = true → s.txdLen.toNat = Config.txdBytes
  flagsReserved : s.param 0 &&& 0xFF80 = 0
  status : s.status.Inv
  recordReset : s.record.valid = false → s.record = Record.reset
  recordWritten : s.record.valid = true → s.record.Written
  recordDone : s.record.valid = true → s.status.decDone = true
  okValid : s.status.decOk = true → s.record.valid = true
  errEmpty : s.status.txErr = true → s.txLen = 0
  txWhole : s.TxWhole

/-- Two buffers hold the same bytes below a fill count. -/
def sameBelow (m m' : Memory) (n : Nat) : Prop := ∀ k, k < n → m.read k = m'.read k

/-- Two states that differ at most in buffer bytes at or above the fill counts (20_memory.md R89). -/
structure SameShown (s t : State) : Prop where
  rxLen : s.rxLen = t.rxLen
  rxOvf : s.rxOvf = t.rxOvf
  rx : sameBelow s.rxbuf t.rxbuf s.rxLen.toNat
  txdLen : s.txdLen = t.txdLen
  txdOvf : s.txdOvf = t.txdOvf
  txd : sameBelow s.txd t.txd s.txdLen.toNat
  txLen : s.txLen = t.txLen
  tx : sameBelow s.txbuf t.txbuf s.txLen.toNat
  params : s.params = t.params
  record : s.record = t.record
  status : s.status = t.status
  decCk : s.decCk = t.decCk
  txCk : s.txCk = t.txCk
  inFlight : s.inFlight = t.inFlight
  inbox : s.inbox = t.inbox
  rdAddr : s.rdAddr = t.rdAddr
  draws : s.draws = t.draws

/-- Two outcomes that show the same. -/
def sameOutcome (o o' : Host.Outcome State Fault Refusal) : Prop :=
  match o, o' with
  | .next s, .next t => SameShown s t
  | .fault r, .fault r' => r = r'
  | .refused r, .refused r' => r = r'
  | _, _ => False

/-- The RX buffer, every byte of it, is as before. -/
structure SameRx (s t : State) : Prop where
  rxLen : t.rxLen = s.rxLen
  rxOvf : t.rxOvf = s.rxOvf
  bytes : ∀ k, t.rxbuf.read k = s.rxbuf.read k

/-- The TX data staging buffer, every byte of it, is as before. -/
structure SameTxd (s t : State) : Prop where
  txdLen : t.txdLen = s.txdLen
  txdOvf : t.txdOvf = s.txdOvf
  bytes : ∀ k, t.txd.read k = s.txd.read k

/-- The TX output buffer, every byte of it, TX_CK and STATUS.TX_* are as before. -/
structure SameTx (s t : State) : Prop where
  txLen : t.txLen = s.txLen
  bytes : ∀ k, t.txbuf.read k = s.txbuf.read k
  txCk : t.txCk = s.txCk
  txErr : t.status.txErr = s.status.txErr
  txCause : t.status.txCause = s.status.txCause

/-- P0 to P15 are as before. -/
def SameParams (s t : State) : Prop := ∀ i, t.param i = s.param i

/-- The record registers, DEC_CK and STATUS.DEC_* are as before. -/
structure SameDec (s t : State) : Prop where
  record : t.record = s.record
  decCk : t.decCk = s.decCk
  decDone : t.status.decDone = s.status.decDone
  decOk : t.status.decOk = s.status.decOk
  decReason : t.status.decReason = s.status.decReason
  decCkDbl : t.status.decCkDbl = s.status.decCkDbl

/-- BUSY and the host's side are as before. -/
structure SameHost (s t : State) : Prop where
  inFlight : t.inFlight = s.inFlight
  inbox : t.inbox = s.inbox
  rdAddr : t.rdAddr = s.rdAddr
  draws : t.draws = s.draws

/-- The CORE's whole state but BUSY is as before. -/
structure SameCore (s t : State) : Prop where
  rx : SameRx s t
  txd : SameTxd s t
  tx : SameTx s t
  params : SameParams s t
  dec : SameDec s t
  badOp : t.status.badOp = s.status.badOp

/-- What a successful TX request leaves (42_tx_framer.md R256): the frame F in TXBUF[0:TXLEN], its checksum, the
status; nothing else, and no byte of TXBUF beyond the frame, changes. -/
structure Committed (s t : State) (F : List Byte) (ck : Half) : Prop where
  frame : t.txBytes = F
  txLen : t.txLen.toNat = F.length
  beyond : ∀ k, F.length ≤ k → t.txbuf.read k = s.txbuf.read k
  txCk : t.txCk = ck
  txErr : t.status.txErr = false
  txCause : t.status.txCause = .none
  badOp : t.status.badOp = false
  rx : SameRx s t
  txd : SameTxd s t
  params : SameParams s t
  dec : SameDec s t
  host : SameHost s t

/-- What a failed TX request leaves (42_tx_framer.md R257). -/
structure TxFailed (s t : State) (c : TxCause) : Prop where
  txLen : t.txLen = 0
  bytes : ∀ k, t.txbuf.read k = s.txbuf.read k
  txErr : t.status.txErr = true
  txCause : t.status.txCause = c
  badOp : t.status.badOp = false
  txCk : t.txCk = s.txCk
  rx : SameRx s t
  txd : SameTxd s t
  params : SameParams s t
  dec : SameDec s t
  host : SameHost s t

/-- What a rejected DECODE leaves (41_rx_parser.md R215), DEC_CK holding `ck`. -/
structure Rejected (s t : State) (r : DecReason) (ck : Half) : Prop where
  decDone : t.status.decDone = true
  decOk : t.status.decOk = false
  decReason : t.status.decReason = r
  decCkDbl : t.status.decCkDbl = false
  badOp : t.status.badOp = false
  decCk : t.decCk = ck
  record : t.record = s.record
  rx : SameRx s t
  txd : SameTxd s t
  tx : SameTx s t
  params : SameParams s t
  host : SameHost s t

/-- The sum of the bytes as numbers (00_scope.md R12). -/
def byteSum (S : List Byte) : Nat := (S.map BitVec.toNat).sum

/-- DECODE's steps 1 to 3 pass (41_rx_parser.md R201 to R203): no overflow, at least 6 bytes, the sync bytes, LEN at
least 3, and 3 + LEN bytes in all. -/
structure State.ShapeOk (s : State) : Prop where
  ovf : s.rxOvf = false
  long : 6 ≤ s.rxLen.toNat
  sync0 : s.rxbuf.read 0 = 0xFE
  sync1 : s.rxbuf.read 1 = 0xFE
  len : 3 ≤ (s.rxbuf.read 2).toNat
  total : 3 + (s.rxbuf.read 2).toNat = s.rxLen.toNat

/-- The sum of the bytes before the received trailer, masked to 16 bits (41_rx_parser.md R205). -/
def State.rxSum (s : State) : Nat := byteSum (s.rxbuf.readBytes (s.rxLen.toNat - 2)) % 65536

/-- The received trailer: the last two bytes, the first one the high byte (20_memory.md R83). -/
def State.rxTrailer (s : State) : Nat :=
  (s.rxbuf.read (s.rxLen.toNat - 2)).toNat * 256 + (s.rxbuf.read (s.rxLen.toNat - 1)).toNat

/-- DECODE's step 4 passes (R205): the trailer is the sum or its double, masked. -/
def State.ChecksumOk (s : State) : Prop := s.rxTrailer = s.rxSum ∨ s.rxTrailer = 2 * s.rxSum % 65536

/-- DECODE's step 5 passes (R206). -/
def State.CommandOk (s : State) : Prop := s.rxbuf.read 3 = 0x01 ∨ s.rxbuf.read 3 = 0x02

/-- The byte at a data offset of the received BODY (20_memory.md R82). -/
def State.rxData (s : State) (k : Nat) : Byte := s.rxbuf.read (4 + k)

/-- Instructions in sequence, each complete before the next (20_memory.md R94). -/
def execAll : List Instr → State → Host.Outcome State Fault Refusal
  | [], s => .next s
  | i :: is, s =>
    match exec i s with
    | .next t => execAll is t
    | .fault r => .fault r
    | .refused r => .refused r

end Sys2Proof.Machine
end

