-- ==== Sys2Proof/Certificates/Slice0/Obligations.lean ====
section
/-! DEFINITION. The statements about the model. Each docstring names the rules of spec/ the statement rests on, and the
entry of the assumption log where a clause is the model's choice. -/

open Sys2Proof Sys2Proof.Machine

/-- 10_state.md R51: every piece of state at its reset value; the buffer contents are not observable (every location of
the three windows reads 0). -/
def Obligations.ResetValues : Prop :=
  State.reset.busy = false ∧ State.reset.rxLen = 0 ∧ State.reset.rxOvf = false ∧ State.reset.txdLen = 0 ∧
  State.reset.txdOvf = false ∧ State.reset.txLen = 0 ∧ (∀ i, State.reset.param i = 0) ∧
  State.reset.record.flagsWord = 0 ∧ State.reset.record.infoWord = 0 ∧
  State.reset.record.valueWords = List.replicate 22 0 ∧ State.reset.status.word = 0 ∧ State.reset.decCk = 0 ∧
  State.reset.txCk = 0 ∧ (∀ a : BitVec 12, 0x400 ≤ a.toNat → a.toNat < 0xA00 → State.reset.location a = 0)

/-- 70_reset_and_hazards.md R351 (the spec marks it derived) and 95_test_vectors.md V16: after reset every read address
reads 0, a DECODE rejects with SHORT, and a SET emits the all-zero single-zone frame. -/
def Obligations.ResetReadsZero : Prop :=
  (∀ a, State.reset.readPort a = 0) ∧
  (∃ t, exec .decode State.reset = .next t ∧ Rejected State.reset t .short 0) ∧
  (∃ t, exec .set State.reset = .next t ∧ Committed State.reset t
    [0xFE, 0xFE, 0x11, 0x02, 0, 0, 0, 0, 0, 0, 0, 0, 0, 0, 0, 0, 0, 0, 0x02, 0x0F] 0x020F)

/-- The invariant of Safety.lean holds after reset. -/
def Obligations.ResetInv : Prop := State.reset.Inv

/-- Every step keeps the invariant: the buffers' canonical form and capacities, the fill counts, the reserved bits of P0,
STATUS and the record consistent, and TXBUF empty or one whole frame with its checksum in TX_CK (20_memory.md R91,
41_rx_parser.md R209, 93_implementation_defined.md I14). -/
def Obligations.StepKeepsInv : Prop := ∀ s t : State, s.Inv → step s = .next t → t.Inv

/-- Decode and encode agree on every well-formed instruction, the wire frames among them (log entry 8). -/
def Obligations.DecodeEncode : Prop := ∀ i : Instr, i.wf = true → decodeItem (encode i) = .ok i

/-- Every byte string the wire decoder accepts is the encoding of what it reads: no byte is dropped (30_encoding.md R120,
R121; wire frames as instructions are the model's choice, log entry 8). -/
def Obligations.FrameDecodeUnique : Prop :=
  (∀ bytes i, decodeIn bytes = .ok i → encode i = .frameIn bytes) ∧
  (∀ bytes i, decodeOut bytes = .ok i → encode i = .frameOut bytes)

/-- 30_encoding.md R111 to R114, R132: encoding what a request word decodes to gives the word with its ignored bits 0. -/
def Obligations.RequestReencoded : Prop :=
  ∀ w : ReqWord, encode (decodeRequest w) = .request (w &&& operandMask w)

/-- 30_encoding.md R119: two words that agree on the bits their OP's format reads are the same request. -/
def Obligations.IgnoredBits : Prop :=
  ∀ w w' : ReqWord, w &&& operandMask w = w' &&& operandMask w' →
    decodeRequest w = decodeRequest w' ∧ ∀ s, exec (decodeRequest w) s = exec (decodeRequest w') s

/-- 30_encoding.md R134 and the frames of 95_test_vectors.md: a few request words and two wire frames written out from the
spec. That the two frames are instructions (the last two clauses) is the model's choice (log entry 8). -/
def Obligations.SampleWords : Prop :=
  decodeRequest 0x00000000 = .nop ∧ decodeRequest 0x200000FE = .rxPush 0xFE ∧
  decodeRequest 0x9001FEE0 = .target .right 0xFEE0 ∧ decodeRequest 0xA005001E = .setp 5 30 ∧
  decodeRequest 0xF1234567 = .reservedF ∧
  decodeItem (.frameOut [0xFE, 0xFE, 0x03, 0x00, 0x01, 0xFF]) = .ok .wireBind ∧
  decodeItem (.frameIn [0xFE, 0xFE, 0x03, 0x01, 0x02, 0x00]) = .ok (.wireTelemetrySingle [] 0x0200)

/-- A step runs the decoded instruction: with an item in flight that decodes to i, and neither rst nor a read next among
the host's actions, the step is exec of i with BUSY back to 0 (log entries 1 and 2). -/
def Obligations.StepRunsDecoded : Prop :=
  ∀ (s : State) (it : Item) (i : Instr), s.inFlight = some it → decodeItem it = .ok i →
    (∀ rest, s.inbox ≠ .reset :: rest) → (∀ a rest, s.inbox ≠ .read a :: rest) →
    step s = exec i { s with inFlight := none }

/-- 70_reset_and_hazards.md R361: a request offered while another is in flight waits until req_ready is 1 again, and is
then accepted, once; no request is lost. That the next step completes the one in flight and the step after accepts the
offer, and the action list that holds the offer, are the model's choices (log entries 2 and 1). -/
def Obligations.OfferWaitsWhileBusy : Prop :=
  ∀ (s : State) (w : ReqWord) (it : Item) (rest : List HostAction),
    s.inFlight = some (.request w) → s.inbox = .offer it :: rest →
    s.reqReady = false ∧ ∃ t u, step s = .next t ∧ exec (decodeRequest w) { s with inFlight := none } = .next t ∧
      t.reqReady = true ∧ t.inbox = .offer it :: rest ∧
      step t = .next u ∧ u.inFlight = some it ∧ u.reqReady = false ∧ u.inbox = rest ∧ SameCore t u

/-- 70_reset_and_hazards.md R350: rst puts every piece of the CORE's state at its reset value, whatever was in flight, and
leaves req_ready = 1. That the host's remaining actions and address pin stay is the model's choice (log entry 12). -/
def Obligations.RstTotal : Prop :=
  ∀ (s : State) (rest : List HostAction), s.inbox = .reset :: rest →
    ∃ t, step s = .next t ∧ SameCore State.reset t ∧ t.inFlight = none ∧ t.reqReady = true ∧ t.inbox = rest

/-- 20_memory.md R88: a read changes nothing of the CORE, in flight or not, and with no request in flight rd_data is the
location at the address. The address pin and the draw counter are the model's own (log entries 4 and 11). -/
def Obligations.ReadObserves : Prop :=
  ∀ (s : State) (a : BitVec 12) (rest : List HostAction), s.inbox = .read a :: rest →
    ∃ t, step s = .next t ∧ SameCore s t ∧ t.inFlight = s.inFlight ∧ t.inbox = rest ∧ t.rdAddr = a ∧
      (s.busy = false → t.rdData = s.location a)

/-- 60_exceptions.md R310: no outcome stops the CORE: every instruction answers a next state, in every state. -/
def Obligations.ExecCompletes : Prop := ∀ (i : Instr) (s : State), ∃ t, exec i s = .next t

/-- The only stop of the machine is the refusal of an item that is no outbound frame of the wire table (log entry 8);
there is no fault (60_exceptions.md R322), and no request word ever stops a step. -/
def Obligations.StepStopsOnlyOnBadOutboundFrame : Prop :=
  ∀ s : State, (∃ t, step s = .next t) ∨
    (∃ bytes e, s.inFlight = some (.frameOut bytes) ∧ decodeOut bytes = .error e ∧
      step s = .refused (.notOutboundFrame e))

/-- 70_reset_and_hazards.md R370, the model's part: however many reads the host makes first, a request in flight has
completed once the host has waited for it, with the effect the request has (log entry 2). -/
def Obligations.RequestCompletes : Prop :=
  ∀ (s : State) (w : ReqWord) (reads : List (BitVec 12)) (rest : List HostAction),
    s.inFlight = some (.request w) → s.inbox = reads.map .read ++ .awaitReady :: rest →
    ∃ t u, Host.Core.run Sys2Proof.core (reads.length + 1) s = .next t ∧ t.reqReady = true ∧
      t.inbox = .awaitReady :: rest ∧ exec (decodeRequest w) s = .next u ∧ SameCore u t

/-- 44_control.md R300: a word with OP 0x0 only clears BAD_OP. -/
def Obligations.NopResult : Prop :=
  ∀ (w : ReqWord) (s : State), w >>> 28 = 0x0 → decodeRequest w = .nop ∧
    ∃ t, exec .nop s = .next t ∧ t.status.badOp = false ∧
      SameRx s t ∧ SameTxd s t ∧ SameTx s t ∧ SameParams s t ∧ SameDec s t ∧ SameHost s t

/-- 44_control.md R303: a word with OP 0xC to 0xF sets BAD_OP and has no other effect. -/
def Obligations.ReservedResult : Prop :=
  (∀ w : ReqWord, (w >>> 28 = 0xC → decodeRequest w = .reservedC) ∧ (w >>> 28 = 0xD → decodeRequest w = .reservedD) ∧
    (w >>> 28 = 0xE → decodeRequest w = .reservedE) ∧ (w >>> 28 = 0xF → decodeRequest w = .reservedF)) ∧
  (∀ (i : Instr) (s : State), i ∈ [Instr.reservedC, .reservedD, .reservedE, .reservedF] →
    ∃ t, exec i s = .next t ∧ t.status.badOp = true ∧
      SameRx s t ∧ SameTxd s t ∧ SameTx s t ∧ SameParams s t ∧ SameDec s t ∧ SameHost s t)

/-- 41_rx_parser.md R190: RX.CLR empties the RX buffer, changes no byte of it, and keeps the last DECODE's result. -/
def Obligations.RxClrResult : Prop :=
  ∀ (w : ReqWord) (s : State), w >>> 28 = 0x1 → decodeRequest w = .rxClr ∧
    ∃ t, exec .rxClr s = .next t ∧ t.rxLen = 0 ∧ t.rxOvf = false ∧ (∀ k, t.rxbuf.read k = s.rxbuf.read k) ∧
      t.status.badOp = false ∧ SameTxd s t ∧ SameTx s t ∧ SameParams s t ∧ SameDec s t ∧ SameHost s t

/-- 41_rx_parser.md R193: RX.PUSH stores its byte at RXLEN and counts it, or sets RXOVF and drops it at 258; the next
DECODE after an overflow fails. -/
def Obligations.RxPushResult : Prop :=
  ∀ (w : ReqWord) (s : State), w >>> 28 = 0x2 → s.Inv → decodeRequest w = .rxPush (w.setWidth 8) ∧
    ∃ t, exec (.rxPush (w.setWidth 8)) s = .next t ∧ t.status.badOp = false ∧
      (s.rxLen.toNat < 258 → t.rxbuf.read s.rxLen.toNat = w.setWidth 8 ∧
        (∀ k, k ≠ s.rxLen.toNat → t.rxbuf.read k = s.rxbuf.read k) ∧
        t.rxLen.toNat = s.rxLen.toNat + 1 ∧ t.rxOvf = s.rxOvf) ∧
      (s.rxLen.toNat = 258 → t.rxOvf = true ∧ t.rxLen = s.rxLen ∧ (∀ k, t.rxbuf.read k = s.rxbuf.read k) ∧
        ∃ u, exec .decode t = .next u ∧ u.status.decOk = false ∧
          (u.status.decReason = .sync ∨ u.status.decReason = .lenField ∨ u.status.decReason = .lenMismatch)) ∧
      SameTxd s t ∧ SameTx s t ∧ SameParams s t ∧ SameDec s t ∧ SameHost s t

/-- 41_rx_parser.md R194 (the spec marks it derived): k pushes after RX.CLR leave the first 258 bytes and RXOVF = 1 exactly
for k > 258, and the validation answers on that as it would on all k bytes. -/
def Obligations.RxLoadResult : Prop :=
  (∀ (s : State) (bytes : List Byte), s.rxbuf.wf = true →
    ∃ t, execAll (expandRxLoad bytes) s = .next t ∧ t.rxBytes = bytes.take 258 ∧
      t.rxLen.toNat = min 258 bytes.length ∧ (t.rxOvf = true ↔ 258 < bytes.length)) ∧
  (∀ bytes : List Byte, judge (decide (258 < bytes.length)) (bytes.take 258) = judge false bytes)

/-- 41_rx_parser.md R201, R215: fewer than 6 bytes is SHORT; after an overflow step 1 passes. -/
def Obligations.DecodeShort : Prop :=
  (∀ s : State, s.rxOvf = false → s.rxLen.toNat < 6 →
    ∃ t, exec .decode s = .next t ∧ Rejected s t .short s.decCk) ∧
  (∀ s : State, s.rxOvf = true → ∃ t, exec .decode s = .next t ∧ t.status.decReason ≠ .short)

/-- 41_rx_parser.md R202, R215: a first or second byte that is not 0xFE is SYNC, once step 1 has passed. -/
def Obligations.DecodeSync : Prop :=
  ∀ s : State, s.Inv → (s.rxOvf = true ∨ 6 ≤ s.rxLen.toNat) →
    (s.rxbuf.read 0 ≠ 0xFE ∨ s.rxbuf.read 1 ≠ 0xFE) → ∃ t, exec .decode s = .next t ∧ Rejected s t .sync s.decCk

/-- 41_rx_parser.md R203, R204, R215: LEN below 3 is LEN_FIELD; else an overflow or a length other than 3 + LEN is
LEN_MISMATCH. -/
def Obligations.DecodeLength : Prop :=
  ∀ s : State, s.Inv → (s.rxOvf = true ∨ 6 ≤ s.rxLen.toNat) → s.rxbuf.read 0 = 0xFE → s.rxbuf.read 1 = 0xFE →
    ((s.rxbuf.read 2).toNat < 3 → ∃ t, exec .decode s = .next t ∧ Rejected s t .lenField s.decCk) ∧
    (3 ≤ (s.rxbuf.read 2).toNat → (s.rxOvf = true ∨ 3 + (s.rxbuf.read 2).toNat ≠ s.rxLen.toNat) →
      ∃ t, exec .decode s = .next t ∧ Rejected s t .lenMismatch s.decCk)

/-- 41_rx_parser.md R205, R215: a trailer that is neither the masked sum nor its double is CHECKSUM, and DEC_CK receives
the sum. -/
def Obligations.DecodeChecksum : Prop :=
  ∀ s : State, s.ShapeOk → ¬ s.ChecksumOk →
    ∃ t, exec .decode s = .next t ∧ Rejected s t .checksum (BitVec.ofNat 16 s.rxSum)

/-- 41_rx_parser.md R206, R215: any CMD but 0x01 and 0x02 is CMD, once the checksum has passed. -/
def Obligations.DecodeCommand : Prop :=
  ∀ s : State, s.ShapeOk → s.ChecksumOk → ¬ s.CommandOk →
    ∃ t, exec .decode s = .next t ∧ Rejected s t .cmd (BitVec.ofNat 16 s.rxSum)

/-- 41_rx_parser.md R208, R215: fewer than 18 data bytes is DATA_SHORT, once the command has passed. -/
def Obligations.DecodeDataShort : Prop :=
  ∀ s : State, s.ShapeOk → s.ChecksumOk → s.CommandOk → (s.rxbuf.read 2).toNat - 3 < 18 →
    ∃ t, exec .decode s = .next t ∧ Rejected s t .dataShort (BitVec.ofNat 16 s.rxSum)

/-- 41_rx_parser.md R211, R214; 40_primitives.md R167 to R171; 10_state.md R41 to R44: a valid frame's single-zone record,
as the read port shows it, and everything else a valid DECODE writes and keeps. -/
def Obligations.DecodeValid : Prop :=
  ∀ s : State, s.ShapeOk → s.ChecksumOk → s.CommandOk → 18 ≤ (s.rxbuf.read 2).toNat - 3 →
    ∃ t, exec .decode s = .next t ∧
      t.status.decDone = true ∧ t.status.decOk = true ∧ t.status.decReason = .none ∧
      (t.status.decCkDbl = true ↔ s.rxTrailer ≠ s.rxSum) ∧ t.status.badOp = false ∧ t.decCk.toNat = s.rxSum ∧
      SameRx s t ∧ SameTxd s t ∧ SameTx s t ∧ SameParams s t ∧ SameHost s t ∧
      (t.location 0x006).getLsbD 0 = true ∧
      ((t.location 0x006).getLsbD 1 = true ↔ s.rxData 0x00 ≠ 0) ∧
      ((t.location 0x006).getLsbD 2 = true ↔ s.rxData 0x01 ≠ 0) ∧
      ((t.location 0x006).getLsbD 3 = true ↔ s.rxData 0x09 = 1) ∧
      (t.location 0x006).extractLsb' 4 2 = (if s.rxData 0x02 = 0 then 0 else if s.rxData 0x02 = 1 then 1 else 2) ∧
      (t.location 0x006).extractLsb' 6 2 = (if s.rxData 0x03 = 0 then 0 else if s.rxData 0x03 = 1 then 1
        else if s.rxData 0x03 = 2 then 2 else 3) ∧
      (t.location 0x006).extractLsb' 8 2 = (if 240 ≤ 10 * (s.rxData 0x10).toNat + (s.rxData 0x11).toNat then 0
        else if 230 < 10 * (s.rxData 0x10).toNat + (s.rxData 0x11).toNat ∧
          10 * (s.rxData 0x10).toNat + (s.rxData 0x11).toNat < 239 then 1 else 2) ∧
      ((t.location 0x006).getLsbD 10 = true ↔ s.rxData 0x0F ≠ 0x7F) ∧
      ((t.location 0x006).getLsbD 11 = true ↔ 28 ≤ (s.rxbuf.read 2).toNat - 3) ∧
      (t.location 0x006).extractLsb' 12 4 = 0 ∧
      (t.location 0x007).toNat = (s.rxbuf.read 3).toNat + 256 * ((s.rxbuf.read 2).toNat - 3) ∧
      t.location 0x008 = (s.rxData 0x04).signExtend 16 ∧ t.location 0x009 = (s.rxData 0x05).signExtend 16 ∧
      t.location 0x00A = (s.rxData 0x06).signExtend 16 ∧ t.location 0x00B = (s.rxData 0x07).signExtend 16 ∧
      t.location 0x00C = (s.rxData 0x08).setWidth 16 ∧ t.location 0x00D = (s.rxData 0x0A).signExtend 16 ∧
      t.location 0x00E = (s.rxData 0x0B).signExtend 16 ∧ t.location 0x00F = (s.rxData 0x0C).signExtend 16 ∧
      t.location 0x010 = (s.rxData 0x0D).signExtend 16 ∧ t.location 0x011 = (s.rxData 0x0E).signExtend 16 ∧
      t.location 0x012 = (if s.rxData 0x0F = 0x7F then 0 else (s.rxData 0x0F).setWidth 16) ∧
      t.location 0x013 = (s.rxData 0x10).setWidth 16 ∧ t.location 0x014 = (s.rxData 0x11).setWidth 16 ∧
      (t.location 0x015).toNat = 10 * (s.rxData 0x10).toNat + (s.rxData 0x11).toNat

/-- 41_rx_parser.md R212, R213: the right-zone registers of a valid frame, extracted for 28 data bytes or more whatever the
CMD is, and 0 otherwise. -/
def Obligations.DecodeRightZone : Prop :=
  ∀ s : State, s.ShapeOk → s.ChecksumOk → s.CommandOk → 18 ≤ (s.rxbuf.read 2).toNat - 3 →
    ∃ t, exec .decode s = .next t ∧
      (28 ≤ (s.rxbuf.read 2).toNat - 3 → t.record.rightPresent = true ∧
        t.location 0x016 = (s.rxData 0x12).signExtend 16 ∧ t.location 0x017 = (s.rxData 0x15).signExtend 16 ∧
        t.location 0x018 = (s.rxData 0x16).signExtend 16 ∧ t.location 0x019 = (s.rxData 0x17).signExtend 16 ∧
        t.location 0x01A = (s.rxData 0x18).signExtend 16 ∧ t.location 0x01B = (s.rxData 0x19).signExtend 16 ∧
        t.location 0x01C = (s.rxData 0x1A).signExtend 16 ∧ t.location 0x01D = (s.rxData 0x1B).setWidth 16) ∧
      ((s.rxbuf.read 2).toNat - 3 < 28 → t.record.rightPresent = false ∧
        ∀ a : BitVec 12, 0x016 ≤ a.toNat → a.toNat ≤ 0x01D → t.location a = 0)

/-- 41_rx_parser.md R216: DECODE does not consume the RX buffer; a later DECODE with no RX.CLR or RX.PUSH (and no inbound
frame, which brings them) between gives the same outcome, record and status, whatever else ran between. -/
def Obligations.DecodeRepeats : Prop :=
  ∀ (s t u v : State) (is : List Instr), exec .decode s = .next t → (∀ i ∈ is, i.writesRx = false) →
    execAll is t = .next u → exec .decode u = .next v →
    SameRx s t ∧ v.record = t.record ∧ v.decCk = t.decCk ∧ v.status.decDone = t.status.decDone ∧
      v.status.decOk = t.status.decOk ∧ v.status.decReason = t.status.decReason ∧
      v.status.decCkDbl = t.status.decCkDbl

/-- 10_state.md R52 (the spec marks it derived): DECODE's result is a function of RXBUF[0:RXLEN] and RXOVF alone, and a TX
request's of its operands, TXD[0:TXDLEN], TXDOVF and P0 to P15 alone. -/
def Obligations.ResultsDependOnInputs : Prop :=
  (∀ s s' t t' : State, s.rxBytes = s'.rxBytes → s.rxOvf = s'.rxOvf →
    exec .decode s = .next t → exec .decode s' = .next t' →
    t.status.decDone = t'.status.decDone ∧ t.status.decOk = t'.status.decOk ∧
    t.status.decReason = t'.status.decReason ∧ t.status.decCkDbl = t'.status.decCkDbl ∧
    (t.status.decOk = true → t.record = t'.record) ∧
    (t.status.decOk = true ∨ 5 ≤ t.status.decReason.code → t.decCk = t'.decCk)) ∧
  (∀ (i : Instr) (s s' t t' : State), i.isTx = true → s.txbuf.wf = true → s'.txbuf.wf = true →
    s.txdBytes = s'.txdBytes → s.txdOvf = s'.txdOvf → (∀ k, s.param k = s'.param k) →
    exec i s = .next t → exec i s' = .next t' →
    t.txBytes = t'.txBytes ∧ t.status.txErr = t'.status.txErr ∧ t.status.txCause = t'.status.txCause ∧
    (t.status.txErr = false → t.txCk = t'.txCk))

/-- 41_rx_parser.md R217 (the spec marks it derived) and S4 of 95_test_vectors.md: a telemetry frame with the doubled
trailer decodes with identical field values; only DEC_CKDBL differs. Inbound frames as instructions are the model's
choice (log entry 8). -/
def Obligations.DoubledTrailerSameRecord : Prop :=
  ∀ (s : State) (body : List Byte), s.rxbuf.wf = true → 18 ≤ body.length → body.length ≤ 252 →
    (∃ t u, exec (.wireTelemetrySingle body (frameOf (0x01 :: body)).2) s = .next t ∧
      exec (.wireTelemetrySingle body (dbl (frameOf (0x01 :: body)).2)) s = .next u ∧
      t.status.decOk = true ∧ u.status.decOk = true ∧ t.status.decCkDbl = false ∧ u.status.decCkDbl = true ∧
      u.record = t.record ∧ u.decCk = t.decCk) ∧
    (∃ t u, exec (.wireTelemetryDual body (frameOf (0x02 :: body)).2) s = .next t ∧
      exec (.wireTelemetryDual body (dbl (frameOf (0x02 :: body)).2)) s = .next u ∧
      t.status.decOk = true ∧ u.status.decOk = true ∧ t.status.decCkDbl = false ∧ u.status.decCkDbl = true ∧
      u.record = t.record ∧ u.decCk = t.decCk)

/-- 30_encoding.md R123, R133; 41_rx_parser.md R205, R208, R214, R215: an inbound frame has the effect of the requests of
RXFRAME of its bytes. It leaves those bytes in the RX buffer and the sum in DEC_CK; the whole record, with the status of a
valid frame, when the trailer is the plain or doubled checksum and the BODY has 18 bytes or more; else the old record and
the reason. As an instruction it is the model's choice (log entry 8). -/
def Obligations.InboundFrameResult : Prop :=
  ∀ (s : State) (body : List Byte) (ck : Half) (c : Byte) (i : Instr), s.rxbuf.wf = true → body.length ≤ 252 →
    (c = 0x01 ∧ i = .wireTelemetrySingle body ck ∨ c = 0x02 ∧ i = .wireTelemetryDual body ck) →
    exec i s =
      execAll (expandRxFrame ([0xFE, 0xFE, BitVec.ofNat 8 (body.length + 3), c] ++ body ++ trailer ck)) s ∧
    ∃ t, exec i s = .next t ∧ t.rxBytes = [0xFE, 0xFE, BitVec.ofNat 8 (body.length + 3), c] ++ body ++ trailer ck ∧
      t.rxOvf = false ∧ t.status.badOp = false ∧ t.status.decDone = true ∧ t.decCk = (frameOf (c :: body)).2 ∧
      (ck ≠ (frameOf (c :: body)).2 → ck ≠ dbl (frameOf (c :: body)).2 →
        t.status.decReason = .checksum ∧ t.status.decOk = false ∧ t.status.decCkDbl = false ∧ t.record = s.record) ∧
      (ck = (frameOf (c :: body)).2 ∨ ck = dbl (frameOf (c :: body)).2 → body.length < 18 →
        t.status.decReason = .dataShort ∧ t.status.decOk = false ∧ t.status.decCkDbl = false ∧ t.record = s.record) ∧
      (ck = (frameOf (c :: body)).2 ∨ ck = dbl (frameOf (c :: body)).2 → 18 ≤ body.length →
        t.status.decReason = .none ∧ t.status.decOk = true ∧
        (t.status.decCkDbl = true ↔ ck ≠ (frameOf (c :: body)).2) ∧
        t.record = extractRecord body c (BitVec.ofNat 8 body.length) ∧
        t.record.valid = true ∧ t.record.cmd = c ∧ t.record.dlen.toNat = body.length ∧
        t.record.leftTarget = (body.getD 4 0).signExtend 16 ∧ (t.record.rightPresent = true ↔ 28 ≤ body.length)) ∧
      SameTxd s t ∧ SameTx s t ∧ SameParams s t ∧ SameHost s t

/-- 40_primitives.md R166 (the spec marks it derived): the frame of any data region of 1 to 253 bytes, loaded and decoded,
passes steps 1 to 4 with the plain checksum; it is valid exactly if its CMD is 0x01 or 0x02 and its BODY has 18 bytes. -/
def Obligations.FrameRoundTrip : Prop :=
  ∀ (s : State) (c : Byte) (body : List Byte), s.rxbuf.wf = true → body.length ≤ 252 →
    ∃ t, execAll (expandRxFrame (frameOf (c :: body)).1) s = .next t ∧ t.decCk = (frameOf (c :: body)).2 ∧
      t.status.decCkDbl = false ∧
      (t.status.decReason = .none ∨ t.status.decReason = .cmd ∨ t.status.decReason = .dataShort) ∧
      (t.status.decOk = true ↔ (c = 0x01 ∨ c = 0x02) ∧ 18 ≤ body.length)

/-- 70_reset_and_hazards.md R362 (the spec marks it derived): bytes pushed after a valid frame without RX.CLR never decode;
here the outcome is LEN_MISMATCH, and the record stays. -/
def Obligations.StaleRxNeverDecodes : Prop :=
  ∀ (s t u : State) (bytes : List Byte), s.Inv → exec .decode s = .next t → t.status.decOk = true → bytes ≠ [] →
    execAll (bytes.map Instr.rxPush ++ [.decode]) t = .next u →
    u.status.decOk = false ∧ u.status.decReason = .lenMismatch ∧ u.record = t.record

/-- 40_primitives.md R151: CK16 is the sum of the bytes modulo 2^16, whatever their order. -/
def Obligations.ChecksumIsSum : Prop :=
  (∀ S : List Byte, (ck16 S).toNat = byteSum S % 65536) ∧ (∀ S T : List Byte, S.Perm T → ck16 S = ck16 T) ∧
  ck16 [] = 0 ∧ ck16 [0xFE, 0xFE, 0x03, 0x00] = 0x01FF

/-- 40_primitives.md R152 (the spec marks it derived): the plain checksum of a frame the CORE builds never wraps. -/
def Obligations.ChecksumNeverWraps : Prop :=
  ∀ D : List Byte, D.length ≤ 253 →
    byteSum (frameHead D) ≤ 0xFEFE ∧ (frameOf D).2.toNat = byteSum (frameHead D)

/-- 40_primitives.md R153, and R154's corner cases: DBL doubles modulo 2^16 and drops bit 15; it is the identity at 0 only,
does not see bit 15, and never gives an odd trailer. -/
def Obligations.DoublingLaws : Prop :=
  (∀ s : Half, (dbl s).toNat = 2 * s.toNat % 65536 ∧ dbl s = s.extractLsb' 0 15 ++ 0#1) ∧
  (∀ S : List Byte, (dbl (ck16 S)).toNat = 2 * byteSum S % 65536) ∧
  dbl 0x8123 = 0x0246 ∧ dbl 0x01FF = 0x03FE ∧
  (∀ s : Half, dbl s = s ↔ s = 0) ∧ (∀ s : Half, dbl (s ^^^ 0x8000) = dbl s) ∧
  (∀ s t : Half, t.getLsbD 0 = true → ckMatch s t = .plain ∨ ckMatch s t = .none)

/-- 40_primitives.md R155: the extractor's settings on fields inside the byte sequence. -/
def Obligations.ExtractorSettings : Prop :=
  ∀ (S : List Byte) (o : Nat),
    (∀ (e : Endian) (h : o < S.length), (extract S o .one e .u).toNat = S[o].toNat ∧
      (extract S o .one e .s).toInt = s8 S[o]) ∧
    (∀ (x : Ext) (h : o + 1 < S.length), (extract S o .two .be x).toNat = S[o].toNat * 256 + S[o + 1].toNat ∧
      (extract S o .two .le x).toNat = S[o + 1].toNat * 256 + S[o].toNat)

/-- 40_primitives.md R157 (and R163, its inverse, which the spec marks derived): the signed reading of a byte, and ENC8. -/
def Obligations.SignedByteReading : Prop :=
  (∀ b : Byte, s8 b = (if b.toNat < 128 then (b.toNat : Int) else b.toNat - 256) ∧
    s8 b = b.toNat - 256 * bit b.msb ∧ s8 b = (b.signExtend 16).toInt) ∧
  s8 0x00 = 0 ∧ s8 0x7F = 127 ∧ s8 0x80 = -128 ∧ s8 0xEE = -18 ∧ s8 0xFF = -1 ∧
  (∀ v : Int, -128 ≤ v → v ≤ 127 → s8 (enc8 v) = v ∧ ((enc8 v).toNat : Int) = v % 256) ∧
  enc8 (-5) = 0xFB ∧ enc8 (-128) = 0x80 ∧ enc8 127 = 0x7F

/-- 40_primitives.md R160: ROUND gives a nearest integer for every number of fraction bits, an exact half goes away from
zero, and negation commutes with it; the rule's examples at NUM_F = 4. -/
def Obligations.RoundToNearest : Prop :=
  (∀ (nf : Nat) (v : Int),
    2 * (roundInt .awayFromZero nf v * 2 ^ nf - v).natAbs ≤ 2 ^ nf ∧
    (2 * (roundInt .awayFromZero nf v * 2 ^ nf - v).natAbs = 2 ^ nf →
      v.natAbs < (roundInt .awayFromZero nf v * 2 ^ nf).natAbs) ∧
    roundInt .awayFromZero nf (-v) = -roundInt .awayFromZero nf v) ∧
  roundInt .awayFromZero 4 (asInt 0x0028) = 3 ∧ roundInt .awayFromZero 4 (asInt 0xFFD8) = -3 ∧
  roundInt .awayFromZero 4 (asInt 0x0007) = 0 ∧ roundInt .awayFromZero 4 (asInt 0xFFF8) = -1 ∧
  roundInt .awayFromZero 4 (asInt 0x005A) = 6 ∧ roundInt .awayFromZero 4 (asInt 0x8000) = -2048

/-- 40_primitives.md R162: the clamp's range, that it is monotone, its idempotence (for the operand x' that stands for the
clamped value), for every number of fraction bits, and the rule's examples at NUM_F = 4. The last clauses say that the
CLAMP8 the requests use is that one with halves away from zero and NUM_F = 4, the model's parameters (log entries 6, 7). -/
def Obligations.ClampLaws : Prop :=
  (∀ (nf : Nat) (x y : Half),
    -128 ≤ clamp8With .awayFromZero nf x ∧ clamp8With .awayFromZero nf x ≤ 127 ∧
    (x.toInt ≤ y.toInt → clamp8With .awayFromZero nf x ≤ clamp8With .awayFromZero nf y)) ∧
  (∀ (nf : Nat) (x x' : Half), x'.toInt = clamp8With .awayFromZero nf x * 2 ^ nf →
    clamp8With .awayFromZero nf x' = clamp8With .awayFromZero nf x) ∧
  clamp8With .awayFromZero 4 0x0C80 = 127 ∧ clamp8With .awayFromZero 4 0xF380 = -128 ∧
  clamp8With .awayFromZero 4 0x005A = 6 ∧ clamp8With .awayFromZero 4 0xFFB0 = -5 ∧
  clamp8With .awayFromZero 4 0x07F8 = 127 ∧ clamp8With .awayFromZero 4 0xF7F8 = -128 ∧
  clamp8With .awayFromZero 4 0x7FFF = 127 ∧ clamp8With .awayFromZero 4 0x8000 = -128 ∧
  (∀ x : Half, clamp8 x = clamp8With .awayFromZero 4 x ∧ round x = roundInt .awayFromZero 4 x.toInt) ∧
  clamp8 0x0C80 = 127 ∧ clamp8 0xF380 = -128 ∧ clamp8 0x005A = 6 ∧ clamp8 0xFFB0 = -5 ∧ clamp8 0x0028 = 3 ∧
  clamp8 0xFFD8 = -3 ∧ clamp8 0x07F8 = 127 ∧ clamp8 0xF7F8 = -128 ∧ clamp8 0x7FFF = 127 ∧ clamp8 0x8000 = -128

/-- 93_implementation_defined.md I3: the other tie rule changes only operands whose fraction is exactly one half. -/
def Obligations.TieRulesAgreeOffHalves : Prop :=
  ∀ (nf : Nat) (v : Int), 2 * (v % 2 ^ nf) ≠ 2 ^ nf → roundInt .toEven nf v = roundInt .awayFromZero nf v

/-- 40_primitives.md R172 (the spec marks it derived, on binary64 from general knowledge; log entry 13): COMPCLASS on exact
decivolts gives the class of the float comparisons, for every pair of bytes. -/
def Obligations.CompressorFloatAgrees : Prop :=
  ∀ int frac : Byte, floatCompClass int frac = compClass (voltDeciOf int frac)

/-- 40_primitives.md R165: the framer's output, byte by byte, with the sum as a number. -/
def Obligations.FramerLayout : Prop :=
  (∀ D : List Byte, D.length ≤ 253 →
    (frameOf D).1 = [0xFE, 0xFE, BitVec.ofNat 8 (D.length + 2)] ++ D ++
      [BitVec.ofNat 8 (byteSum ([0xFE, 0xFE, BitVec.ofNat 8 (D.length + 2)] ++ D) % 65536 / 256),
       BitVec.ofNat 8 (byteSum ([0xFE, 0xFE, BitVec.ofNat 8 (D.length + 2)] ++ D) % 256)] ∧
    (frameOf D).1.length = D.length + 5 ∧
    (frameOf D).2.toNat = byteSum ([0xFE, 0xFE, BitVec.ofNat 8 (D.length + 2)] ++ D) % 65536) ∧
  (frameOf []).1 = [0xFE, 0xFE, 0x02, 0x01, 0xFE]

/-- 42_tx_framer.md R240: TXD.CLR empties the staging buffer; TXBUF keeps the last frame. -/
def Obligations.TxdClrResult : Prop :=
  ∀ (w : ReqWord) (s : State), w >>> 28 = 0x4 → decodeRequest w = .txdClr ∧
    ∃ t, exec .txdClr s = .next t ∧ t.txdLen = 0 ∧ t.txdOvf = false ∧ (∀ k, t.txd.read k = s.txd.read k) ∧
      t.status.badOp = false ∧ SameRx s t ∧ SameTx s t ∧ SameParams s t ∧ SameDec s t ∧ SameHost s t

/-- 42_tx_framer.md R243: TXD.PUSH stores its byte at TXDLEN and counts it, or sets TXDOVF and drops it at 253; FRAME then
fails. -/
def Obligations.TxdPushResult : Prop :=
  ∀ (w : ReqWord) (s : State), w >>> 28 = 0x5 → s.Inv → decodeRequest w = .txdPush (w.setWidth 8) ∧
    ∃ t, exec (.txdPush (w.setWidth 8)) s = .next t ∧ t.status.badOp = false ∧
      (s.txdLen.toNat < 253 → t.txd.read s.txdLen.toNat = w.setWidth 8 ∧
        (∀ k, k ≠ s.txdLen.toNat → t.txd.read k = s.txd.read k) ∧
        t.txdLen.toNat = s.txdLen.toNat + 1 ∧ t.txdOvf = s.txdOvf) ∧
      (s.txdLen.toNat = 253 → t.txdOvf = true ∧ t.txdLen = s.txdLen ∧ (∀ k, t.txd.read k = s.txd.read k) ∧
        ∃ u, exec .frame t = .next u ∧ TxFailed t u .txdOverflow) ∧
      SameRx s t ∧ SameTx s t ∧ SameParams s t ∧ SameDec s t ∧ SameHost s t

/-- 42_tx_framer.md R245, R256, R257: FRAME emits the frame of the staged data region, taken verbatim and not consumed, or
fails with TXD_OVERFLOW; the empty region gives `FE FE 02 01 FE`. -/
def Obligations.FrameResult : Prop :=
  ∀ (w : ReqWord) (s : State), w >>> 28 = 0x6 → s.Inv → decodeRequest w = .frame ∧
    ∃ t, exec .frame s = .next t ∧
      (s.txdOvf = true → TxFailed s t .txdOverflow) ∧
      (s.txdOvf = false → Committed s t (frameOf s.txdBytes).1 (frameOf s.txdBytes).2) ∧
      (s.txdOvf = false → s.txdLen = 0 → t.txBytes = [0xFE, 0xFE, 0x02, 0x01, 0xFE])

/-- 42_tx_framer.md R250, R253: BIND and QUERY emit their fixed frames. -/
def Obligations.BindQueryResult : Prop :=
  ∀ (w : ReqWord) (s : State), s.txbuf.wf = true →
    (w >>> 28 = 0x7 → decodeRequest w = .bind) ∧ (w >>> 28 = 0x8 → decodeRequest w = .query) ∧
    (∃ t, exec .bind s = .next t ∧ Committed s t [0xFE, 0xFE, 0x03, 0x00, 0x01, 0xFF] 0x01FF ∧
      (frameOf [0x00]).1 = [0xFE, 0xFE, 0x03, 0x00, 0x01, 0xFF]) ∧
    (∃ t, exec .query s = .next t ∧ Committed s t [0xFE, 0xFE, 0x03, 0x01, 0x02, 0x00] 0x0200 ∧
      (frameOf [0x01]).1 = [0xFE, 0xFE, 0x03, 0x01, 0x02, 0x00])

/-- 43_command_marshaller.md R276, 30_encoding.md R128: TARGET emits the 7-byte frame of its zone and clamped value, for
every 16-bit value. -/
def Obligations.TargetResult : Prop :=
  ∀ (w : ReqWord) (s : State) (Z : Byte), w >>> 28 = 0x9 → s.txbuf.wf = true →
    Z = (if w.getLsbD 16 then 0x06 else 0x05) →
    decodeRequest w = .target (if w.getLsbD 16 then .right else .left) (w.setWidth 16) ∧
    ∃ t b, exec (.target (if w.getLsbD 16 then .right else .left) (w.setWidth 16)) s = .next t ∧
      s8 b = clamp8 (w.setWidth 16) ∧
      Committed s t
        [0xFE, 0xFE, 0x04, Z, b, BitVec.ofNat 8 ((0x200 + Z.toNat + b.toNat) / 256),
          BitVec.ofNat 8 ((0x200 + Z.toNat + b.toNat) % 256)]
        (BitVec.ofNat 16 (0x200 + Z.toNat + b.toNat))

/-- 43_command_marshaller.md R271, 10_state.md R38, R49: SETP writes the parameter register its IDX names, P0 without its
reserved bits, and the read port shows it. -/
def Obligations.SetpResult : Prop :=
  ∀ (w : ReqWord) (s : State), w >>> 28 = 0xA →
    decodeRequest w = .setp (w.extractLsb' 16 4) (w.setWidth 16) ∧
    ∃ t, exec (.setp (w.extractLsb' 16 4) (w.setWidth 16)) s = .next t ∧
      (w.extractLsb' 16 4 = 0 → t.param 0 = (w.setWidth 7).setWidth 16) ∧
      (w.extractLsb' 16 4 ≠ 0 → t.param (w.extractLsb' 16 4) = w.setWidth 16) ∧
      (∀ j, j ≠ w.extractLsb' 16 4 → t.param j = s.param j) ∧
      (∀ j : BitVec 4, t.location (0x020 + j.setWidth 12) = t.param j) ∧
      t.status.badOp = false ∧ SameRx s t ∧ SameTxd s t ∧ SameTx s t ∧ SameDec s t ∧ SameHost s t

/-- 43_command_marshaller.md R284, R287, R290 to R292, 30_encoding.md R127: SET fails with BAD_PARAM for battery saver 3;
otherwise it emits the single-zone frame, or with P0.DUAL the dual-zone frame, of P0 to P15. -/
def Obligations.SetResult : Prop :=
  ∀ (w : ReqWord) (s : State) (flag : Nat → Byte) (c : BitVec 4 → Byte) (single dual : List Byte),
    w >>> 28 = 0xB → s.txbuf.wf = true →
    (∀ k, flag k = if (s.param 0).getLsbD k then 1 else 0) → (∀ i, c i = enc8 (clamp8 (s.param i))) →
    single = [0x02, flag 0, flag 1, flag 2, flag 3 + 2 * flag 4, c 1, c 2, c 3, c 4, (s.param 5).setWidth 8, flag 5,
      c 6, c 7, c 8, c 9] →
    dual = single ++ [c 10, 0, 0, c 11, c 12, c 13, c 14, c 15, 0, 0, 0] →
    decodeRequest w = .set ∧ ∃ t, exec .set s = .next t ∧
      ((s.param 0).extractLsb' 3 2 = 3 → TxFailed s t .badParam) ∧
      ((s.param 0).extractLsb' 3 2 ≠ 3 → (s.param 0).getLsbD 6 = false →
        Committed s t (frameOf single).1 (frameOf single).2 ∧ t.txLen = 20) ∧
      ((s.param 0).extractLsb' 3 2 ≠ 3 → (s.param 0).getLsbD 6 = true →
        Committed s t (frameOf dual).1 (frameOf dual).2 ∧ t.txLen = 31)

/-- 30_encoding.md R123 ("handled by"), 42_tx_framer.md R246: each outbound request has the effect of the wire frame it
emits: SET's is the well-formed set frame of its parameters, FRAME's the wire frame that the frame of the staged data
region decodes to, where the wire table has one. Wire frames as instructions are the model's choice (log entry 8). -/
def Obligations.RequestsEmitTheirWireFrames : Prop :=
  ∀ (s : State) (v : Half),
    exec .bind s = exec .wireBind s ∧ exec .query s = exec .wireQuery s ∧
    exec (.target .left v) s = exec (.wireTargetLeft (enc8 (clamp8 v))) s ∧
    exec (.target .right v) s = exec (.wireTargetRight (enc8 (clamp8 v))) s ∧
    ((s.param 0).extractLsb' 3 2 ≠ 3 →
      ∃ body, (Instr.wireSet body).wf = true ∧ exec .set s = exec (.wireSet body) s) ∧
    (s.txdOvf = false → ∀ i, decodeItem (.frameOut (frameOf s.txdBytes).1) = .ok i → exec .frame s = exec i s)

/-- 30_encoding.md R127 to R130, 42_tx_framer.md R256: what each outbound wire frame leaves. As instructions they are the
model's choice (log entry 8). -/
def Obligations.OutboundFrameResult : Prop :=
  ∀ (s : State) (body : List Byte) (b : Byte), s.txbuf.wf = true →
    (∃ t, exec .wireBind s = .next t ∧ Committed s t [0xFE, 0xFE, 0x03, 0x00, 0x01, 0xFF] 0x01FF) ∧
    (∃ t, exec .wireQuery s = .next t ∧ Committed s t [0xFE, 0xFE, 0x03, 0x01, 0x02, 0x00] 0x0200) ∧
    (∃ t, exec (.wireTargetLeft b) s = .next t ∧ Committed s t (frameOf [0x05, b]).1 (frameOf [0x05, b]).2) ∧
    (∃ t, exec (.wireTargetRight b) s = .next t ∧ Committed s t (frameOf [0x06, b]).1 (frameOf [0x06, b]).2) ∧
    ((Instr.wireSet body).wf = true →
      ∃ t, exec (.wireSet body) s = .next t ∧ Committed s t (frameOf (0x02 :: body)).1 (frameOf (0x02 :: body)).2 ∧
        (t.txLen = 20 ∨ t.txLen = 31))

/-- 60_exceptions.md R320: which request writes which field of STATUS. -/
def Obligations.StatusDiscipline : Prop :=
  ∀ (w : ReqWord) (s t : State), exec (decodeRequest w) s = .next t →
    (t.status.badOp = true ↔ 0xC ≤ (w >>> 28).toNat) ∧
    ((w >>> 28).toNat = 0x3 → t.status.decDone = true ∧ (t.status.decOk = true ↔ t.status.decReason = .none) ∧
      (t.status.decCkDbl = true → t.status.decOk = true)) ∧
    ((w >>> 28).toNat ≠ 0x3 → t.status.decDone = s.status.decDone ∧ t.status.decOk = s.status.decOk ∧
      t.status.decReason = s.status.decReason ∧ t.status.decCkDbl = s.status.decCkDbl) ∧
    ((w >>> 28).toNat ∈ [0x6, 0x7, 0x8, 0x9, 0xB] → (t.status.txErr = true ↔ t.status.txCause ≠ .none)) ∧
    ((w >>> 28).toNat ∉ [0x6, 0x7, 0x8, 0x9, 0xB] → t.status.txErr = s.status.txErr ∧
      t.status.txCause = s.status.txCause)

/-- 10_state.md R40, R50 (R50 the spec marks derived): what no instruction outside a family changes; the record changes
only in a DECODE that succeeds, and is then valid; BUSY and the host's side are no instruction's to change. -/
def Obligations.WritersOfState : Prop :=
  ∀ (i : Instr) (s t : State), exec i s = .next t →
    (i.writesRx = false → SameRx s t) ∧ (i.writesTxd = false → SameTxd s t) ∧ (i.isTx = false → SameTx s t) ∧
    (i.writesParams = false → SameParams s t) ∧ (i.isDecode = false → SameDec s t) ∧ SameHost s t ∧
    (t.record ≠ s.record → i.isDecode = true ∧ t.status.decOk = true ∧ t.record.valid = true) ∧
    (i.isDecode = true → t.status.decOk = false → t.record = s.record)

/-- 20_memory.md R89, 10_state.md R51: buffer bytes at or above the fill counts are never observable: two states that differ
in nothing else show the same at every address, and step to states that again differ in nothing else. So the byte the
model lets an unlisted index hold (log entry 3) shows nowhere. -/
def Obligations.StaleBytesUnobservable : Prop :=
  ∀ s t : State, s.Inv → t.Inv → SameShown s t →
    (∀ a, s.readPort a = t.readPort a) ∧ s.rdData = t.rdData ∧ sameOutcome (step s) (step t)

/-- 20_memory.md R89, 10_state.md R49: a buffer window shows the byte zero-extended below the fill count and 0 at or above
it; every reserved address reads 0. -/
def Obligations.WindowsReadBytesOrZero : Prop :=
  ∀ (s : State) (k : Nat), k < 0x200 →
    s.location (BitVec.ofNat 12 (0x400 + k)) = (if k < s.rxLen.toNat then (s.rxbuf.read k).setWidth 16 else 0) ∧
    s.location (BitVec.ofNat 12 (0x600 + k)) = (if k < s.txdLen.toNat then (s.txd.read k).setWidth 16 else 0) ∧
    s.location (BitVec.ofNat 12 (0x800 + k)) = (if k < s.txLen.toNat then (s.txbuf.read k).setWidth 16 else 0) ∧
    (∀ a : BitVec 12, (a.toNat = 0x01E ∨ a.toNat = 0x01F ∨ (0x030 ≤ a.toNat ∧ a.toNat < 0x400) ∨ 0xA00 ≤ a.toNat) →
      s.location a = 0)

/-- 10_state.md R45, R46, R47; 60_exceptions.md R312, R316: the places of the fields of STATUS and of the buffer control
registers, the codes DEC_REASON and TX_CAUSE read as, and the reserved bits read 0. -/
def Obligations.StatusLayout : Prop :=
  ∀ s : State,
    (s.location 0x000).getLsbD 0 = s.status.decDone ∧ (s.location 0x000).getLsbD 1 = s.status.decOk ∧
    ((s.location 0x000).extractLsb' 2 3).toNat = s.status.decReason.code ∧
    (s.location 0x000).extractLsb' 2 3 = (if s.status.decReason = .short then 1 else if s.status.decReason = .sync then 2
      else if s.status.decReason = .lenField then 3 else if s.status.decReason = .lenMismatch then 4
      else if s.status.decReason = .checksum then 5 else if s.status.decReason = .cmd then 6
      else if s.status.decReason = .dataShort then 7 else 0) ∧
    (s.location 0x000).getLsbD 5 = s.status.decCkDbl ∧ (s.location 0x000).getLsbD 6 = s.status.txErr ∧
    ((s.location 0x000).extractLsb' 7 2).toNat = s.status.txCause.code ∧
    (s.location 0x000).extractLsb' 7 2 =
      (if s.status.txCause = .txdOverflow then 1 else if s.status.txCause = .badParam then 2 else 0) ∧
    (s.location 0x000).getLsbD 9 = s.status.badOp ∧ (s.location 0x000).extractLsb' 10 6 = 0 ∧
    (s.location 0x001).extractLsb' 0 9 = s.rxLen ∧ (s.location 0x001).extractLsb' 9 6 = 0 ∧
    (s.location 0x001).getLsbD 15 = s.rxOvf ∧
    (s.location 0x002).extractLsb' 0 8 = s.txdLen ∧ (s.location 0x002).extractLsb' 8 7 = 0 ∧
    (s.location 0x002).getLsbD 15 = s.txdOvf ∧
    (s.location 0x003).extractLsb' 0 9 = s.txLen ∧ (s.location 0x003).extractLsb' 9 7 = 0 ∧
    s.location 0x004 = s.decCk ∧ s.location 0x005 = s.txCk

/-- 41_rx_parser.md R200 to R206, R215; 30_encoding.md R133: received bytes that are no inbound frame of the wire table
have the effect of RXFRAME of them: they are loaded, rejected with the reason of the first step that fails, and the record
stays. That the step takes them as one item is the model's choice (log entry 8). -/
def Obligations.UnknownFrameRejected : Prop :=
  ∀ (s : State) (bytes : List Byte) (e : FrameError), s.rxbuf.wf = true → s.inFlight = some (.frameIn bytes) →
    decodeItem (.frameIn bytes) = .error e →
    (∀ rest, s.inbox ≠ .reset :: rest) → (∀ a rest, s.inbox ≠ .read a :: rest) →
    step s = execAll (expandRxFrame bytes) { s with inFlight := none } ∧
    ∃ t, step s = .next t ∧ t.inFlight = none ∧ t.inbox = s.inbox ∧ t.rxBytes = bytes.take 258 ∧
      (t.rxOvf = true ↔ 258 < bytes.length) ∧ t.status.decDone = true ∧ t.status.decOk = false ∧
      t.status.decCkDbl = false ∧ t.status.badOp = false ∧ t.record = s.record ∧
      (e = .tooShort → t.status.decReason = .short ∧ t.decCk = s.decCk) ∧
      (e = .badSync → t.status.decReason = .sync ∧ t.decCk = s.decCk) ∧
      (e = .badLength → (t.status.decReason = .lenField ∨ t.status.decReason = .lenMismatch) ∧ t.decCk = s.decCk) ∧
      (∀ c, e = .badCommand c → t.status.decReason = .checksum ∨ t.status.decReason = .cmd) ∧
      SameTxd s t ∧ SameTx s t ∧ SameParams s t
end

