-- ==== Sys2Proof/Laws/Bytes.lean ====
section
/-! SUPPORT. The laws of the byte-sequence primitives: reading one byte, the extractor, the accumulator, the framer. -/

namespace Sys2Proof

open Sys2Proof.Machine (byteSum)

theorem byteAt_eq {S : List Byte} {o : Nat} (h : o < S.length) : byteAt S o = S[o] := by
  simp [byteAt, h]

theorem byteAt_getD {S : List Byte} {o : Nat} (h : o < S.length) (x : Byte) : byteAt S o = S.getD o x := by
  simp [byteAt, h]

@[simp] theorem byteAt_zero (b : Byte) (S : List Byte) : byteAt (b :: S) 0 = b := rfl

@[simp] theorem byteAt_succ_lit (b : Byte) (S : List Byte) (o : Nat) (h : o < S.length) :
    byteAt (b :: S) (o + 1) = byteAt S o := by
  simp [byteAt, h]

theorem byteAt_append_left {S T : List Byte} {o : Nat} (h : o < S.length) : byteAt (S ++ T) o = byteAt S o := by
  simp [byteAt, h, List.getElem?_append_left h]

theorem byteAt_append_right {S T : List Byte} {o : Nat} (h : o < T.length) :
    byteAt (S ++ T) (S.length + o) = byteAt T o := by
  simp [byteAt, h]

/-- The big-endian two-byte reading as a number (40_primitives.md R155). -/
theorem extract_be_toNat (S : List Byte) (o : Nat) (x : Ext) :
    (extract S o .two .be x).toNat = (byteAt S o).toNat * 256 + (byteAt S (o + 1)).toNat := by
  have h : (byteAt S (o + 1)).toNat < 2 ^ 8 := (byteAt S (o + 1)).isLt
  rw [extract, BitVec.toNat_append, ← Nat.shiftLeft_add_eq_or_of_lt h, Nat.shiftLeft_eq]

@[simp] theorem trailer_length (s : Half) : (trailer s).length = 2 := rfl

/-- The trailer read big-endian is the checksum it was made from (20_memory.md R83). -/
theorem extract_trailer (S : List Byte) (s : Half) (x : Ext) :
    extract (S ++ trailer s) S.length .two .be x = s := by
  apply BitVec.eq_of_toNat_eq
  have h0 : byteAt (S ++ trailer s) S.length = s.extractLsb' 8 8 :=
    byteAt_append_right (S := S) (T := trailer s) (o := 0) (by simp)
  have h1 : byteAt (S ++ trailer s) (S.length + 1) = s.extractLsb' 0 8 :=
    byteAt_append_right (S := S) (T := trailer s) (o := 1) (by simp)
  rw [extract_be_toNat, h0, h1]
  simp only [BitVec.extractLsb'_toNat, Nat.shiftRight_eq_div_pow]
  have := s.isLt
  omega

/-- The accumulator after bytes, as a number (40_primitives.md R150). -/
theorem foldl_ckStep_toNat (S : List Byte) (acc : Half) :
    (S.foldl ckStep acc).toNat = (acc.toNat + byteSum S) % 65536 := by
  induction S generalizing acc with
  | nil => simp [byteSum]; omega
  | cons b S ih =>
    have hb : b.toNat < 256 := b.isLt
    rw [List.foldl_cons, ih]
    simp only [ckStep, byteSum, List.map_cons, List.sum_cons, BitVec.toNat_add, BitVec.toNat_setWidth]
    omega

/-- CK16 as a number. -/
theorem ck16_toNat (S : List Byte) : (ck16 S).toNat = byteSum S % 65536 := by
  simp [ck16, foldl_ckStep_toNat]

theorem byteSum_append (S T : List Byte) : byteSum (S ++ T) = byteSum S + byteSum T := by
  simp [byteSum]

theorem byteSum_cons (b : Byte) (S : List Byte) : byteSum (b :: S) = b.toNat + byteSum S := by
  simp [byteSum]

/-- Each byte adds at most 255. -/
theorem byteSum_le (S : List Byte) : byteSum S ≤ 255 * S.length := by
  induction S with
  | nil => simp [byteSum]
  | cons b S ih =>
    have : b.toNat < 256 := b.isLt
    simp only [byteSum_cons, List.length_cons]; omega

@[simp] theorem frameHead_length (D : List Byte) : (frameHead D).length = D.length + 3 := by
  simp [frameHead]

@[simp] theorem frameOf_fst_length (D : List Byte) : (frameOf D).1.length = D.length + 5 := by
  simp [frameOf]

theorem frameOf_fst (D : List Byte) : (frameOf D).1 = frameHead D ++ trailer (frameOf D).2 := rfl

theorem frameOf_snd (D : List Byte) : (frameOf D).2 = ck16 (frameHead D) := rfl

theorem byteAt_frameHead_zero (D : List Byte) : byteAt (frameHead D) 0 = Config.sync := rfl

theorem byteAt_frameHead_one (D : List Byte) : byteAt (frameHead D) 1 = Config.sync := rfl

theorem byteAt_frameHead_two (D : List Byte) : byteAt (frameHead D) 2 = BitVec.ofNat 8 (D.length + 2) := rfl

theorem byteAt_frameHead_add (D : List Byte) (o : Nat) : byteAt (frameHead D) (o + 3) = (D[o]?).getD (Config.beyondByte (o + 3)) := by
  simp only [byteAt, frameHead, List.getElem?_cons_succ]
  cases D[o]? <;> rfl

end Sys2Proof
end

