-- ==== Sys2Proof/Laws/Memory.lean ====
section
/-! SUPPORT. The laws of the byte buffers: read after write, writes elsewhere, the canonical form kept, capacities kept. -/

namespace Sys2Proof.Machine

@[simp] theorem Memory.read_nil (a : Nat) : Memory.read [] a = unlistedByte := rfl

@[simp] theorem Memory.readBytes_length (m : Memory) (n : Nat) : (m.readBytes n).length = n := by
  simp [Memory.readBytes]

theorem Memory.readBytes_get? (m : Memory) (n k : Nat) :
    (m.readBytes n)[k]? = if k < n then some (m.read k) else none := by
  by_cases h : k < n
  · simp [Memory.readBytes, h]
  · simp [Memory.readBytes, h]

@[simp] theorem Memory.readBytes_get (m : Memory) (n k : Nat) (h : k < (m.readBytes n).length) :
    (m.readBytes n)[k] = m.read k := by
  simp [Memory.readBytes]

/-- The bytes below a count depend on the reads below it alone. -/
theorem Memory.readBytes_congr {m m' : Memory} {n : Nat} (h : ∀ k, k < n → m.read k = m'.read k) :
    m.readBytes n = m'.readBytes n := by
  simp only [Memory.readBytes, List.map_inj_left, List.mem_range]
  exact h

/-- One more byte read. -/
theorem Memory.readBytes_succ (m : Memory) (n : Nat) : m.readBytes (n + 1) = m.readBytes n ++ [m.read n] := by
  simp [Memory.readBytes, List.range_succ]

/-- Below an index that lies above a, nothing is listed. -/
theorem Memory.read_of_above {m : Memory} {a : Nat} (h : m.above a = true) {k : Nat} (hk : k ≤ a) :
    m.read k = unlistedByte := by
  induction m with
  | nil => rfl
  | cons c m ih =>
    obtain ⟨j, v⟩ := c
    simp only [Memory.above, Bool.and_eq_true, decide_eq_true_eq] at h
    have : j ≠ k := by omega
    simp [Memory.read, this, ih h.2]

/-- A write leaves every other index as it was. -/
theorem Memory.read_write_ne (m : Memory) {a k : Nat} (b : Byte) (h : k ≠ a) : (m.write a b).read k = m.read k := by
  induction m with
  | nil =>
    have h' : a ≠ k := Ne.symm h
    by_cases hb : b = unlistedByte <;> simp [Memory.write, Memory.read, hb, h']
  | cons c m ih =>
    obtain ⟨j, v⟩ := c
    have h' : a ≠ k := Ne.symm h
    simp only [Memory.write]
    split
    · split <;> simp [Memory.read, h']
    · split
      · rename_i hj; subst hj
        split <;> simp [Memory.read, h']
      · simp [Memory.read, ih]

/-- A read after a write to the same index gives the byte written. -/
theorem Memory.read_write_same {m : Memory} (hm : m.wf = true) (a : Nat) (b : Byte) : (m.write a b).read a = b := by
  induction m with
  | nil => by_cases hb : b = unlistedByte <;> simp [Memory.write, Memory.read, hb]
  | cons c m ih =>
    obtain ⟨j, v⟩ := c
    simp only [Memory.wf, Bool.and_eq_true] at hm
    simp only [Memory.write]
    split
    · split
      · rename_i hlt hb
        have hj : j ≠ a := by omega
        have hab : Memory.above j m = true := hm.1.2
        have hr := Memory.read_of_above hab (Nat.le_of_lt hlt)
        simp [Memory.read, hj, hb, hr]
      · simp [Memory.read]
    · split
      · rename_i hj; subst hj
        split
        · rename_i hb
          simp [hb, Memory.read_of_above hm.1.2 (Nat.le_refl _)]
        · simp [Memory.read]
      · rename_i hne
        have hj : j ≠ a := fun h => hne h.symm
        simp [Memory.read, hj, ih hm.2]

theorem Memory.read_write {m : Memory} (hm : m.wf = true) (a k : Nat) (b : Byte) :
    (m.write a b).read k = if k = a then b else m.read k := by
  by_cases h : k = a
  · subst h; simp [Memory.read_write_same hm]
  · simp [h, Memory.read_write_ne m b h]

theorem Memory.above_mono {m : Memory} {a c : Nat} (h : m.above a = true) (hc : c ≤ a) : m.above c = true := by
  induction m with
  | nil => rfl
  | cons x m ih =>
    simp only [Memory.above, Bool.and_eq_true, decide_eq_true_eq] at h ⊢
    exact ⟨by omega, ih h.2⟩

theorem Memory.above_write {m : Memory} {a c : Nat} {b : Byte} (h : m.above c = true) (hc : c < a) :
    (m.write a b).above c = true := by
  induction m with
  | nil => by_cases hb : b = unlistedByte <;> simp [Memory.write, Memory.above, hb, hc]
  | cons x m ih =>
    obtain ⟨j, v⟩ := x
    simp only [Memory.above, Bool.and_eq_true, decide_eq_true_eq] at h
    simp only [Memory.write]
    split
    · split <;> simp [Memory.above, h.1, h.2, hc]
    · split
      · split
        · exact h.2
        · simp [Memory.above, hc, h.2]
      · simp [Memory.above, h.1, ih h.2]

/-- A write keeps the canonical form. -/
theorem Memory.wf_write {m : Memory} (hm : m.wf = true) (a : Nat) (b : Byte) : (m.write a b).wf = true := by
  induction m with
  | nil => by_cases hb : b = unlistedByte <;> simp [Memory.write, Memory.wf, Memory.above, hb]
  | cons x m ih =>
    obtain ⟨j, v⟩ := x
    have hm' := hm
    simp only [Memory.wf, Bool.and_eq_true, bne_iff_ne] at hm
    obtain ⟨⟨hv, hab⟩, hw⟩ := hm
    simp only [Memory.write]
    split
    · split
      · exact hm'
      · rename_i hlt hb
        simp [Memory.wf, Memory.above, hb, hlt, hv, hab, hw, Memory.above_mono hab (by omega : a ≤ j)]
    · split
      · rename_i hj; subst hj
        split
        · exact hw
        · rename_i hb
          simp [Memory.wf, hb, hab, hw]
      · have hj : j < a := by omega
        simp [Memory.wf, hv, ih hw, Memory.above_write hab hj]

/-- A write below a capacity keeps every index below it. -/
theorem Memory.within_write {m : Memory} {cap : Nat} (hm : m.within cap = true) {a : Nat} (ha : a < cap) (b : Byte) :
    (m.write a b).within cap = true := by
  induction m with
  | nil => by_cases hb : b = unlistedByte <;> simp [Memory.write, Memory.within, hb, ha]
  | cons x m ih =>
    obtain ⟨j, v⟩ := x
    have hm' := hm
    simp only [Memory.within, Bool.and_eq_true, decide_eq_true_eq] at hm
    simp only [Memory.write]
    split
    · split
      · exact hm'
      · simp [Memory.within, ha, hm.1, hm.2]
    · split
      · split
        · exact hm.2
        · simp [Memory.within, ha, hm.2]
      · simp [Memory.within, hm.1, ih hm.2]

/-- A sequence of bytes written keeps the canonical form. -/
theorem Memory.wf_writeBytes {m : Memory} (hm : m.wf = true) (a : Nat) (bs : List Byte) :
    (m.writeBytes a bs).wf = true := by
  induction bs generalizing m a with
  | nil => exact hm
  | cons b bs ih => exact ih (Memory.wf_write hm a b) (a + 1)

theorem Memory.within_writeBytes {m : Memory} {cap : Nat} (hm : m.within cap = true) {a : Nat} {bs : List Byte}
    (h : a + bs.length ≤ cap) : (m.writeBytes a bs).within cap = true := by
  induction bs generalizing m a with
  | nil => exact hm
  | cons b bs ih =>
    simp only [List.length_cons] at h
    exact ih (Memory.within_write hm (by omega) b) (by omega)

/-- A sequence written leaves every index outside it as it was. -/
theorem Memory.read_writeBytes_ne (m : Memory) {a k : Nat} (bs : List Byte) (h : k < a ∨ a + bs.length ≤ k) :
    (m.writeBytes a bs).read k = m.read k := by
  induction bs generalizing m a with
  | nil => rfl
  | cons b bs ih =>
    simp only [List.length_cons] at h
    rw [Memory.writeBytes, ih _ (by omega), Memory.read_write_ne _ _ (by omega)]

/-- A sequence written reads back. -/
theorem Memory.read_writeBytes {m : Memory} (hm : m.wf = true) (a : Nat) (bs : List Byte) (k : Nat)
    (hk : k < bs.length) : (m.writeBytes a bs).read (a + k) = bs[k] := by
  induction bs generalizing m a k with
  | nil => simp at hk
  | cons b bs ih =>
    cases k with
    | zero =>
      rw [Memory.writeBytes, Memory.read_writeBytes_ne _ _ (by omega)]
      simpa using Memory.read_write_same hm a b
    | succ k =>
      have := ih (Memory.wf_write hm a b) (a + 1) k (by simpa using hk)
      rw [Memory.writeBytes]
      simpa [Nat.add_assoc, Nat.add_comm 1 k] using this

/-- The bytes written from index 0 are the bytes read from index 0. -/
theorem Memory.readBytes_writeBytes {m : Memory} (hm : m.wf = true) (bs : List Byte) :
    (m.writeBytes 0 bs).readBytes bs.length = bs := by
  apply List.ext_getElem (by simp)
  intro k h₁ h₂
  simpa using Memory.read_writeBytes hm 0 bs k h₂

end Sys2Proof.Machine
end

