-- ==== Sys2Proof/Laws/State.lean ====
section
/-! SUPPORT. One lemma per field per update of the state, and of STATUS: later proofs unfold no record update. -/

namespace Sys2Proof.Machine

variable (s : State)

@[simp] theorem State.setBadOp_rxbuf (b : Bool) : (s.setBadOp b).rxbuf = s.rxbuf := rfl
@[simp] theorem State.setBadOp_rxLen (b : Bool) : (s.setBadOp b).rxLen = s.rxLen := rfl
@[simp] theorem State.setBadOp_rxOvf (b : Bool) : (s.setBadOp b).rxOvf = s.rxOvf := rfl
@[simp] theorem State.setBadOp_txd (b : Bool) : (s.setBadOp b).txd = s.txd := rfl
@[simp] theorem State.setBadOp_txdLen (b : Bool) : (s.setBadOp b).txdLen = s.txdLen := rfl
@[simp] theorem State.setBadOp_txdOvf (b : Bool) : (s.setBadOp b).txdOvf = s.txdOvf := rfl
@[simp] theorem State.setBadOp_txbuf (b : Bool) : (s.setBadOp b).txbuf = s.txbuf := rfl
@[simp] theorem State.setBadOp_txLen (b : Bool) : (s.setBadOp b).txLen = s.txLen := rfl
@[simp] theorem State.setBadOp_params (b : Bool) : (s.setBadOp b).params = s.params := rfl
@[simp] theorem State.setBadOp_record (b : Bool) : (s.setBadOp b).record = s.record := rfl
@[simp] theorem State.setBadOp_status (b : Bool) : (s.setBadOp b).status = s.status.withBadOp b := rfl
@[simp] theorem State.setBadOp_decCk (b : Bool) : (s.setBadOp b).decCk = s.decCk := rfl
@[simp] theorem State.setBadOp_txCk (b : Bool) : (s.setBadOp b).txCk = s.txCk := rfl
@[simp] theorem State.setBadOp_inFlight (b : Bool) : (s.setBadOp b).inFlight = s.inFlight := rfl
@[simp] theorem State.setBadOp_inbox (b : Bool) : (s.setBadOp b).inbox = s.inbox := rfl
@[simp] theorem State.setBadOp_rdAddr (b : Bool) : (s.setBadOp b).rdAddr = s.rdAddr := rfl
@[simp] theorem State.setBadOp_draws (b : Bool) : (s.setBadOp b).draws = s.draws := rfl

@[simp] theorem State.rxClear_rxbuf : s.rxClear.rxbuf = s.rxbuf := rfl
@[simp] theorem State.rxClear_rxLen : s.rxClear.rxLen = 0 := rfl
@[simp] theorem State.rxClear_rxOvf : s.rxClear.rxOvf = false := rfl
@[simp] theorem State.rxClear_txd : s.rxClear.txd = s.txd := rfl
@[simp] theorem State.rxClear_txdLen : s.rxClear.txdLen = s.txdLen := rfl
@[simp] theorem State.rxClear_txdOvf : s.rxClear.txdOvf = s.txdOvf := rfl
@[simp] theorem State.rxClear_txbuf : s.rxClear.txbuf = s.txbuf := rfl
@[simp] theorem State.rxClear_txLen : s.rxClear.txLen = s.txLen := rfl
@[simp] theorem State.rxClear_params : s.rxClear.params = s.params := rfl
@[simp] theorem State.rxClear_record : s.rxClear.record = s.record := rfl
@[simp] theorem State.rxClear_status : s.rxClear.status = s.status.withBadOp false := rfl
@[simp] theorem State.rxClear_decCk : s.rxClear.decCk = s.decCk := rfl
@[simp] theorem State.rxClear_txCk : s.rxClear.txCk = s.txCk := rfl
@[simp] theorem State.rxClear_inFlight : s.rxClear.inFlight = s.inFlight := rfl
@[simp] theorem State.rxClear_inbox : s.rxClear.inbox = s.inbox := rfl
@[simp] theorem State.rxClear_rdAddr : s.rxClear.rdAddr = s.rdAddr := rfl
@[simp] theorem State.rxClear_draws : s.rxClear.draws = s.draws := rfl

@[simp] theorem State.rxAppend_rxbuf (b : Byte) : (s.rxAppend b).rxbuf = s.rxbuf.write s.rxLen.toNat b := rfl
@[simp] theorem State.rxAppend_rxLen (b : Byte) : (s.rxAppend b).rxLen = s.rxLen + 1 := rfl
@[simp] theorem State.rxAppend_rxOvf (b : Byte) : (s.rxAppend b).rxOvf = s.rxOvf := rfl
@[simp] theorem State.rxAppend_txd (b : Byte) : (s.rxAppend b).txd = s.txd := rfl
@[simp] theorem State.rxAppend_txdLen (b : Byte) : (s.rxAppend b).txdLen = s.txdLen := rfl
@[simp] theorem State.rxAppend_txdOvf (b : Byte) : (s.rxAppend b).txdOvf = s.txdOvf := rfl
@[simp] theorem State.rxAppend_txbuf (b : Byte) : (s.rxAppend b).txbuf = s.txbuf := rfl
@[simp] theorem State.rxAppend_txLen (b : Byte) : (s.rxAppend b).txLen = s.txLen := rfl
@[simp] theorem State.rxAppend_params (b : Byte) : (s.rxAppend b).params = s.params := rfl
@[simp] theorem State.rxAppend_record (b : Byte) : (s.rxAppend b).record = s.record := rfl
@[simp] theorem State.rxAppend_status (b : Byte) : (s.rxAppend b).status = s.status.withBadOp false := rfl
@[simp] theorem State.rxAppend_decCk (b : Byte) : (s.rxAppend b).decCk = s.decCk := rfl
@[simp] theorem State.rxAppend_txCk (b : Byte) : (s.rxAppend b).txCk = s.txCk := rfl
@[simp] theorem State.rxAppend_inFlight (b : Byte) : (s.rxAppend b).inFlight = s.inFlight := rfl
@[simp] theorem State.rxAppend_inbox (b : Byte) : (s.rxAppend b).inbox = s.inbox := rfl
@[simp] theorem State.rxAppend_rdAddr (b : Byte) : (s.rxAppend b).rdAddr = s.rdAddr := rfl
@[simp] theorem State.rxAppend_draws (b : Byte) : (s.rxAppend b).draws = s.draws := rfl

@[simp] theorem State.rxDrop_rxbuf : s.rxDrop.rxbuf = s.rxbuf := rfl
@[simp] theorem State.rxDrop_rxLen : s.rxDrop.rxLen = s.rxLen := rfl
@[simp] theorem State.rxDrop_rxOvf : s.rxDrop.rxOvf = true := rfl
@[simp] theorem State.rxDrop_txd : s.rxDrop.txd = s.txd := rfl
@[simp] theorem State.rxDrop_txdLen : s.rxDrop.txdLen = s.txdLen := rfl
@[simp] theorem State.rxDrop_txdOvf : s.rxDrop.txdOvf = s.txdOvf := rfl
@[simp] theorem State.rxDrop_txbuf : s.rxDrop.txbuf = s.txbuf := rfl
@[simp] theorem State.rxDrop_txLen : s.rxDrop.txLen = s.txLen := rfl
@[simp] theorem State.rxDrop_params : s.rxDrop.params = s.params := rfl
@[simp] theorem State.rxDrop_record : s.rxDrop.record = s.record := rfl
@[simp] theorem State.rxDrop_status : s.rxDrop.status = s.status.withBadOp false := rfl
@[simp] theorem State.rxDrop_decCk : s.rxDrop.decCk = s.decCk := rfl
@[simp] theorem State.rxDrop_txCk : s.rxDrop.txCk = s.txCk := rfl
@[simp] theorem State.rxDrop_inFlight : s.rxDrop.inFlight = s.inFlight := rfl
@[simp] theorem State.rxDrop_inbox : s.rxDrop.inbox = s.inbox := rfl
@[simp] theorem State.rxDrop_rdAddr : s.rxDrop.rdAddr = s.rdAddr := rfl
@[simp] theorem State.rxDrop_draws : s.rxDrop.draws = s.draws := rfl

@[simp] theorem State.txdClear_rxbuf : s.txdClear.rxbuf = s.rxbuf := rfl
@[simp] theorem State.txdClear_rxLen : s.txdClear.rxLen = s.rxLen := rfl
@[simp] theorem State.txdClear_rxOvf : s.txdClear.rxOvf = s.rxOvf := rfl
@[simp] theorem State.txdClear_txd : s.txdClear.txd = s.txd := rfl
@[simp] theorem State.txdClear_txdLen : s.txdClear.txdLen = 0 := rfl
@[simp] theorem State.txdClear_txdOvf : s.txdClear.txdOvf = false := rfl
@[simp] theorem State.txdClear_txbuf : s.txdClear.txbuf = s.txbuf := rfl
@[simp] theorem State.txdClear_txLen : s.txdClear.txLen = s.txLen := rfl
@[simp] theorem State.txdClear_params : s.txdClear.params = s.params := rfl
@[simp] theorem State.txdClear_record : s.txdClear.record = s.record := rfl
@[simp] theorem State.txdClear_status : s.txdClear.status = s.status.withBadOp false := rfl
@[simp] theorem State.txdClear_decCk : s.txdClear.decCk = s.decCk := rfl
@[simp] theorem State.txdClear_txCk : s.txdClear.txCk = s.txCk := rfl
@[simp] theorem State.txdClear_inFlight : s.txdClear.inFlight = s.inFlight := rfl
@[simp] theorem State.txdClear_inbox : s.txdClear.inbox = s.inbox := rfl
@[simp] theorem State.txdClear_rdAddr : s.txdClear.rdAddr = s.rdAddr := rfl
@[simp] theorem State.txdClear_draws : s.txdClear.draws = s.draws := rfl

@[simp] theorem State.txdAppend_rxbuf (b : Byte) : (s.txdAppend b).rxbuf = s.rxbuf := rfl
@[simp] theorem State.txdAppend_rxLen (b : Byte) : (s.txdAppend b).rxLen = s.rxLen := rfl
@[simp] theorem State.txdAppend_rxOvf (b : Byte) : (s.txdAppend b).rxOvf = s.rxOvf := rfl
@[simp] theorem State.txdAppend_txd (b : Byte) : (s.txdAppend b).txd = s.txd.write s.txdLen.toNat b := rfl
@[simp] theorem State.txdAppend_txdLen (b : Byte) : (s.txdAppend b).txdLen = s.txdLen + 1 := rfl
@[simp] theorem State.txdAppend_txdOvf (b : Byte) : (s.txdAppend b).txdOvf = s.txdOvf := rfl
@[simp] theorem State.txdAppend_txbuf (b : Byte) : (s.txdAppend b).txbuf = s.txbuf := rfl
@[simp] theorem State.txdAppend_txLen (b : Byte) : (s.txdAppend b).txLen = s.txLen := rfl
@[simp] theorem State.txdAppend_params (b : Byte) : (s.txdAppend b).params = s.params := rfl
@[simp] theorem State.txdAppend_record (b : Byte) : (s.txdAppend b).record = s.record := rfl
@[simp] theorem State.txdAppend_status (b : Byte) : (s.txdAppend b).status = s.status.withBadOp false := rfl
@[simp] theorem State.txdAppend_decCk (b : Byte) : (s.txdAppend b).decCk = s.decCk := rfl
@[simp] theorem State.txdAppend_txCk (b : Byte) : (s.txdAppend b).txCk = s.txCk := rfl
@[simp] theorem State.txdAppend_inFlight (b : Byte) : (s.txdAppend b).inFlight = s.inFlight := rfl
@[simp] theorem State.txdAppend_inbox (b : Byte) : (s.txdAppend b).inbox = s.inbox := rfl
@[simp] theorem State.txdAppend_rdAddr (b : Byte) : (s.txdAppend b).rdAddr = s.rdAddr := rfl
@[simp] theorem State.txdAppend_draws (b : Byte) : (s.txdAppend b).draws = s.draws := rfl

@[simp] theorem State.txdDrop_rxbuf : s.txdDrop.rxbuf = s.rxbuf := rfl
@[simp] theorem State.txdDrop_rxLen : s.txdDrop.rxLen = s.rxLen := rfl
@[simp] theorem State.txdDrop_rxOvf : s.txdDrop.rxOvf = s.rxOvf := rfl
@[simp] theorem State.txdDrop_txd : s.txdDrop.txd = s.txd := rfl
@[simp] theorem State.txdDrop_txdLen : s.txdDrop.txdLen = s.txdLen := rfl
@[simp] theorem State.txdDrop_txdOvf : s.txdDrop.txdOvf = true := rfl
@[simp] theorem State.txdDrop_txbuf : s.txdDrop.txbuf = s.txbuf := rfl
@[simp] theorem State.txdDrop_txLen : s.txdDrop.txLen = s.txLen := rfl
@[simp] theorem State.txdDrop_params : s.txdDrop.params = s.params := rfl
@[simp] theorem State.txdDrop_record : s.txdDrop.record = s.record := rfl
@[simp] theorem State.txdDrop_status : s.txdDrop.status = s.status.withBadOp false := rfl
@[simp] theorem State.txdDrop_decCk : s.txdDrop.decCk = s.decCk := rfl
@[simp] theorem State.txdDrop_txCk : s.txdDrop.txCk = s.txCk := rfl
@[simp] theorem State.txdDrop_inFlight : s.txdDrop.inFlight = s.inFlight := rfl
@[simp] theorem State.txdDrop_inbox : s.txdDrop.inbox = s.inbox := rfl
@[simp] theorem State.txdDrop_rdAddr : s.txdDrop.rdAddr = s.rdAddr := rfl
@[simp] theorem State.txdDrop_draws : s.txdDrop.draws = s.draws := rfl

@[simp] theorem State.setParam_rxbuf (i : BitVec 4) (v : Half) : (s.setParam i v).rxbuf = s.rxbuf := rfl
@[simp] theorem State.setParam_rxLen (i : BitVec 4) (v : Half) : (s.setParam i v).rxLen = s.rxLen := rfl
@[simp] theorem State.setParam_rxOvf (i : BitVec 4) (v : Half) : (s.setParam i v).rxOvf = s.rxOvf := rfl
@[simp] theorem State.setParam_txd (i : BitVec 4) (v : Half) : (s.setParam i v).txd = s.txd := rfl
@[simp] theorem State.setParam_txdLen (i : BitVec 4) (v : Half) : (s.setParam i v).txdLen = s.txdLen := rfl
@[simp] theorem State.setParam_txdOvf (i : BitVec 4) (v : Half) : (s.setParam i v).txdOvf = s.txdOvf := rfl
@[simp] theorem State.setParam_txbuf (i : BitVec 4) (v : Half) : (s.setParam i v).txbuf = s.txbuf := rfl
@[simp] theorem State.setParam_txLen (i : BitVec 4) (v : Half) : (s.setParam i v).txLen = s.txLen := rfl
@[simp] theorem State.setParam_params (i : BitVec 4) (v : Half) : (s.setParam i v).params = s.params.set i.toNat (paramMask i v) i.isLt := rfl
@[simp] theorem State.setParam_record (i : BitVec 4) (v : Half) : (s.setParam i v).record = s.record := rfl
@[simp] theorem State.setParam_status (i : BitVec 4) (v : Half) : (s.setParam i v).status = s.status.withBadOp false := rfl
@[simp] theorem State.setParam_decCk (i : BitVec 4) (v : Half) : (s.setParam i v).decCk = s.decCk := rfl
@[simp] theorem State.setParam_txCk (i : BitVec 4) (v : Half) : (s.setParam i v).txCk = s.txCk := rfl
@[simp] theorem State.setParam_inFlight (i : BitVec 4) (v : Half) : (s.setParam i v).inFlight = s.inFlight := rfl
@[simp] theorem State.setParam_inbox (i : BitVec 4) (v : Half) : (s.setParam i v).inbox = s.inbox := rfl
@[simp] theorem State.setParam_rdAddr (i : BitVec 4) (v : Half) : (s.setParam i v).rdAddr = s.rdAddr := rfl
@[simp] theorem State.setParam_draws (i : BitVec 4) (v : Half) : (s.setParam i v).draws = s.draws := rfl

@[simp] theorem State.txCommit_rxbuf (F : List Byte) (ck : Half) : (s.txCommit F ck).rxbuf = s.rxbuf := rfl
@[simp] theorem State.txCommit_rxLen (F : List Byte) (ck : Half) : (s.txCommit F ck).rxLen = s.rxLen := rfl
@[simp] theorem State.txCommit_rxOvf (F : List Byte) (ck : Half) : (s.txCommit F ck).rxOvf = s.rxOvf := rfl
@[simp] theorem State.txCommit_txd (F : List Byte) (ck : Half) : (s.txCommit F ck).txd = s.txd := rfl
@[simp] theorem State.txCommit_txdLen (F : List Byte) (ck : Half) : (s.txCommit F ck).txdLen = s.txdLen := rfl
@[simp] theorem State.txCommit_txdOvf (F : List Byte) (ck : Half) : (s.txCommit F ck).txdOvf = s.txdOvf := rfl
@[simp] theorem State.txCommit_txbuf (F : List Byte) (ck : Half) : (s.txCommit F ck).txbuf = s.txbuf.writeBytes 0 F := rfl
@[simp] theorem State.txCommit_txLen (F : List Byte) (ck : Half) : (s.txCommit F ck).txLen = BitVec.ofNat 9 F.length := rfl
@[simp] theorem State.txCommit_params (F : List Byte) (ck : Half) : (s.txCommit F ck).params = s.params := rfl
@[simp] theorem State.txCommit_record (F : List Byte) (ck : Half) : (s.txCommit F ck).record = s.record := rfl
@[simp] theorem State.txCommit_status (F : List Byte) (ck : Half) : (s.txCommit F ck).status = s.status.afterTx false .none := rfl
@[simp] theorem State.txCommit_decCk (F : List Byte) (ck : Half) : (s.txCommit F ck).decCk = s.decCk := rfl
@[simp] theorem State.txCommit_txCk (F : List Byte) (ck : Half) : (s.txCommit F ck).txCk = ck := rfl
@[simp] theorem State.txCommit_inFlight (F : List Byte) (ck : Half) : (s.txCommit F ck).inFlight = s.inFlight := rfl
@[simp] theorem State.txCommit_inbox (F : List Byte) (ck : Half) : (s.txCommit F ck).inbox = s.inbox := rfl
@[simp] theorem State.txCommit_rdAddr (F : List Byte) (ck : Half) : (s.txCommit F ck).rdAddr = s.rdAddr := rfl
@[simp] theorem State.txCommit_draws (F : List Byte) (ck : Half) : (s.txCommit F ck).draws = s.draws := rfl

@[simp] theorem State.txFail_rxbuf (c : TxCause) : (s.txFail c).rxbuf = s.rxbuf := rfl
@[simp] theorem State.txFail_rxLen (c : TxCause) : (s.txFail c).rxLen = s.rxLen := rfl
@[simp] theorem State.txFail_rxOvf (c : TxCause) : (s.txFail c).rxOvf = s.rxOvf := rfl
@[simp] theorem State.txFail_txd (c : TxCause) : (s.txFail c).txd = s.txd := rfl
@[simp] theorem State.txFail_txdLen (c : TxCause) : (s.txFail c).txdLen = s.txdLen := rfl
@[simp] theorem State.txFail_txdOvf (c : TxCause) : (s.txFail c).txdOvf = s.txdOvf := rfl
@[simp] theorem State.txFail_txbuf (c : TxCause) : (s.txFail c).txbuf = s.txbuf := rfl
@[simp] theorem State.txFail_txLen (c : TxCause) : (s.txFail c).txLen = 0 := rfl
@[simp] theorem State.txFail_params (c : TxCause) : (s.txFail c).params = s.params := rfl
@[simp] theorem State.txFail_record (c : TxCause) : (s.txFail c).record = s.record := rfl
@[simp] theorem State.txFail_status (c : TxCause) : (s.txFail c).status = s.status.afterTx true c := rfl
@[simp] theorem State.txFail_decCk (c : TxCause) : (s.txFail c).decCk = s.decCk := rfl
@[simp] theorem State.txFail_txCk (c : TxCause) : (s.txFail c).txCk = s.txCk := rfl
@[simp] theorem State.txFail_inFlight (c : TxCause) : (s.txFail c).inFlight = s.inFlight := rfl
@[simp] theorem State.txFail_inbox (c : TxCause) : (s.txFail c).inbox = s.inbox := rfl
@[simp] theorem State.txFail_rdAddr (c : TxCause) : (s.txFail c).rdAddr = s.rdAddr := rfl
@[simp] theorem State.txFail_draws (c : TxCause) : (s.txFail c).draws = s.draws := rfl

@[simp] theorem State.rejectDecode_rxbuf (r : DecReason) (ck : Option Half) : (s.rejectDecode r ck).rxbuf = s.rxbuf := rfl
@[simp] theorem State.rejectDecode_rxLen (r : DecReason) (ck : Option Half) : (s.rejectDecode r ck).rxLen = s.rxLen := rfl
@[simp] theorem State.rejectDecode_rxOvf (r : DecReason) (ck : Option Half) : (s.rejectDecode r ck).rxOvf = s.rxOvf := rfl
@[simp] theorem State.rejectDecode_txd (r : DecReason) (ck : Option Half) : (s.rejectDecode r ck).txd = s.txd := rfl
@[simp] theorem State.rejectDecode_txdLen (r : DecReason) (ck : Option Half) : (s.rejectDecode r ck).txdLen = s.txdLen := rfl
@[simp] theorem State.rejectDecode_txdOvf (r : DecReason) (ck : Option Half) : (s.rejectDecode r ck).txdOvf = s.txdOvf := rfl
@[simp] theorem State.rejectDecode_txbuf (r : DecReason) (ck : Option Half) : (s.rejectDecode r ck).txbuf = s.txbuf := rfl
@[simp] theorem State.rejectDecode_txLen (r : DecReason) (ck : Option Half) : (s.rejectDecode r ck).txLen = s.txLen := rfl
@[simp] theorem State.rejectDecode_params (r : DecReason) (ck : Option Half) : (s.rejectDecode r ck).params = s.params := rfl
@[simp] theorem State.rejectDecode_record (r : DecReason) (ck : Option Half) : (s.rejectDecode r ck).record = s.record := rfl
@[simp] theorem State.rejectDecode_status (r : DecReason) (ck : Option Half) : (s.rejectDecode r ck).status = s.status.afterDecode false r false := rfl
@[simp] theorem State.rejectDecode_decCk (r : DecReason) (ck : Option Half) : (s.rejectDecode r ck).decCk = ck.getD s.decCk := rfl
@[simp] theorem State.rejectDecode_txCk (r : DecReason) (ck : Option Half) : (s.rejectDecode r ck).txCk = s.txCk := rfl
@[simp] theorem State.rejectDecode_inFlight (r : DecReason) (ck : Option Half) : (s.rejectDecode r ck).inFlight = s.inFlight := rfl
@[simp] theorem State.rejectDecode_inbox (r : DecReason) (ck : Option Half) : (s.rejectDecode r ck).inbox = s.inbox := rfl
@[simp] theorem State.rejectDecode_rdAddr (r : DecReason) (ck : Option Half) : (s.rejectDecode r ck).rdAddr = s.rdAddr := rfl
@[simp] theorem State.rejectDecode_draws (r : DecReason) (ck : Option Half) : (s.rejectDecode r ck).draws = s.draws := rfl

@[simp] theorem State.commitRecord_rxbuf (r : Record) (ck : Half) (dbl : Bool) : (s.commitRecord r ck dbl).rxbuf = s.rxbuf := rfl
@[simp] theorem State.commitRecord_rxLen (r : Record) (ck : Half) (dbl : Bool) : (s.commitRecord r ck dbl).rxLen = s.rxLen := rfl
@[simp] theorem State.commitRecord_rxOvf (r : Record) (ck : Half) (dbl : Bool) : (s.commitRecord r ck dbl).rxOvf = s.rxOvf := rfl
@[simp] theorem State.commitRecord_txd (r : Record) (ck : Half) (dbl : Bool) : (s.commitRecord r ck dbl).txd = s.txd := rfl
@[simp] theorem State.commitRecord_txdLen (r : Record) (ck : Half) (dbl : Bool) : (s.commitRecord r ck dbl).txdLen = s.txdLen := rfl
@[simp] theorem State.commitRecord_txdOvf (r : Record) (ck : Half) (dbl : Bool) : (s.commitRecord r ck dbl).txdOvf = s.txdOvf := rfl
@[simp] theorem State.commitRecord_txbuf (r : Record) (ck : Half) (dbl : Bool) : (s.commitRecord r ck dbl).txbuf = s.txbuf := rfl
@[simp] theorem State.commitRecord_txLen (r : Record) (ck : Half) (dbl : Bool) : (s.commitRecord r ck dbl).txLen = s.txLen := rfl
@[simp] theorem State.commitRecord_params (r : Record) (ck : Half) (dbl : Bool) : (s.commitRecord r ck dbl).params = s.params := rfl
@[simp] theorem State.commitRecord_record (r : Record) (ck : Half) (dbl : Bool) : (s.commitRecord r ck dbl).record = r := rfl
@[simp] theorem State.commitRecord_status (r : Record) (ck : Half) (dbl : Bool) : (s.commitRecord r ck dbl).status = s.status.afterDecode true .none dbl := rfl
@[simp] theorem State.commitRecord_decCk (r : Record) (ck : Half) (dbl : Bool) : (s.commitRecord r ck dbl).decCk = ck := rfl
@[simp] theorem State.commitRecord_txCk (r : Record) (ck : Half) (dbl : Bool) : (s.commitRecord r ck dbl).txCk = s.txCk := rfl
@[simp] theorem State.commitRecord_inFlight (r : Record) (ck : Half) (dbl : Bool) : (s.commitRecord r ck dbl).inFlight = s.inFlight := rfl
@[simp] theorem State.commitRecord_inbox (r : Record) (ck : Half) (dbl : Bool) : (s.commitRecord r ck dbl).inbox = s.inbox := rfl
@[simp] theorem State.commitRecord_rdAddr (r : Record) (ck : Half) (dbl : Bool) : (s.commitRecord r ck dbl).rdAddr = s.rdAddr := rfl
@[simp] theorem State.commitRecord_draws (r : Record) (ck : Half) (dbl : Bool) : (s.commitRecord r ck dbl).draws = s.draws := rfl

@[simp] theorem State.accept_rxbuf (it : Item) (rest : List HostAction) : (s.accept it rest).rxbuf = s.rxbuf := rfl
@[simp] theorem State.accept_rxLen (it : Item) (rest : List HostAction) : (s.accept it rest).rxLen = s.rxLen := rfl
@[simp] theorem State.accept_rxOvf (it : Item) (rest : List HostAction) : (s.accept it rest).rxOvf = s.rxOvf := rfl
@[simp] theorem State.accept_txd (it : Item) (rest : List HostAction) : (s.accept it rest).txd = s.txd := rfl
@[simp] theorem State.accept_txdLen (it : Item) (rest : List HostAction) : (s.accept it rest).txdLen = s.txdLen := rfl
@[simp] theorem State.accept_txdOvf (it : Item) (rest : List HostAction) : (s.accept it rest).txdOvf = s.txdOvf := rfl
@[simp] theorem State.accept_txbuf (it : Item) (rest : List HostAction) : (s.accept it rest).txbuf = s.txbuf := rfl
@[simp] theorem State.accept_txLen (it : Item) (rest : List HostAction) : (s.accept it rest).txLen = s.txLen := rfl
@[simp] theorem State.accept_params (it : Item) (rest : List HostAction) : (s.accept it rest).params = s.params := rfl
@[simp] theorem State.accept_record (it : Item) (rest : List HostAction) : (s.accept it rest).record = s.record := rfl
@[simp] theorem State.accept_status (it : Item) (rest : List HostAction) : (s.accept it rest).status = s.status := rfl
@[simp] theorem State.accept_decCk (it : Item) (rest : List HostAction) : (s.accept it rest).decCk = s.decCk := rfl
@[simp] theorem State.accept_txCk (it : Item) (rest : List HostAction) : (s.accept it rest).txCk = s.txCk := rfl
@[simp] theorem State.accept_inFlight (it : Item) (rest : List HostAction) : (s.accept it rest).inFlight = some it := rfl
@[simp] theorem State.accept_inbox (it : Item) (rest : List HostAction) : (s.accept it rest).inbox = rest := rfl
@[simp] theorem State.accept_rdAddr (it : Item) (rest : List HostAction) : (s.accept it rest).rdAddr = s.rdAddr := rfl
@[simp] theorem State.accept_draws (it : Item) (rest : List HostAction) : (s.accept it rest).draws = s.draws + 1 := rfl

@[simp] theorem State.ready_rxbuf : s.ready.rxbuf = s.rxbuf := rfl
@[simp] theorem State.ready_rxLen : s.ready.rxLen = s.rxLen := rfl
@[simp] theorem State.ready_rxOvf : s.ready.rxOvf = s.rxOvf := rfl
@[simp] theorem State.ready_txd : s.ready.txd = s.txd := rfl
@[simp] theorem State.ready_txdLen : s.ready.txdLen = s.txdLen := rfl
@[simp] theorem State.ready_txdOvf : s.ready.txdOvf = s.txdOvf := rfl
@[simp] theorem State.ready_txbuf : s.ready.txbuf = s.txbuf := rfl
@[simp] theorem State.ready_txLen : s.ready.txLen = s.txLen := rfl
@[simp] theorem State.ready_params : s.ready.params = s.params := rfl
@[simp] theorem State.ready_record : s.ready.record = s.record := rfl
@[simp] theorem State.ready_status : s.ready.status = s.status := rfl
@[simp] theorem State.ready_decCk : s.ready.decCk = s.decCk := rfl
@[simp] theorem State.ready_txCk : s.ready.txCk = s.txCk := rfl
@[simp] theorem State.ready_inFlight : s.ready.inFlight = none := rfl
@[simp] theorem State.ready_inbox : s.ready.inbox = s.inbox := rfl
@[simp] theorem State.ready_rdAddr : s.ready.rdAddr = s.rdAddr := rfl
@[simp] theorem State.ready_draws : s.ready.draws = s.draws := rfl

@[simp] theorem State.driveRead_rxbuf (a : BitVec 12) (rest : List HostAction) : (s.driveRead a rest).rxbuf = s.rxbuf := rfl
@[simp] theorem State.driveRead_rxLen (a : BitVec 12) (rest : List HostAction) : (s.driveRead a rest).rxLen = s.rxLen := rfl
@[simp] theorem State.driveRead_rxOvf (a : BitVec 12) (rest : List HostAction) : (s.driveRead a rest).rxOvf = s.rxOvf := rfl
@[simp] theorem State.driveRead_txd (a : BitVec 12) (rest : List HostAction) : (s.driveRead a rest).txd = s.txd := rfl
@[simp] theorem State.driveRead_txdLen (a : BitVec 12) (rest : List HostAction) : (s.driveRead a rest).txdLen = s.txdLen := rfl
@[simp] theorem State.driveRead_txdOvf (a : BitVec 12) (rest : List HostAction) : (s.driveRead a rest).txdOvf = s.txdOvf := rfl
@[simp] theorem State.driveRead_txbuf (a : BitVec 12) (rest : List HostAction) : (s.driveRead a rest).txbuf = s.txbuf := rfl
@[simp] theorem State.driveRead_txLen (a : BitVec 12) (rest : List HostAction) : (s.driveRead a rest).txLen = s.txLen := rfl
@[simp] theorem State.driveRead_params (a : BitVec 12) (rest : List HostAction) : (s.driveRead a rest).params = s.params := rfl
@[simp] theorem State.driveRead_record (a : BitVec 12) (rest : List HostAction) : (s.driveRead a rest).record = s.record := rfl
@[simp] theorem State.driveRead_status (a : BitVec 12) (rest : List HostAction) : (s.driveRead a rest).status = s.status := rfl
@[simp] theorem State.driveRead_decCk (a : BitVec 12) (rest : List HostAction) : (s.driveRead a rest).decCk = s.decCk := rfl
@[simp] theorem State.driveRead_txCk (a : BitVec 12) (rest : List HostAction) : (s.driveRead a rest).txCk = s.txCk := rfl
@[simp] theorem State.driveRead_inFlight (a : BitVec 12) (rest : List HostAction) : (s.driveRead a rest).inFlight = s.inFlight := rfl
@[simp] theorem State.driveRead_inbox (a : BitVec 12) (rest : List HostAction) : (s.driveRead a rest).inbox = rest := rfl
@[simp] theorem State.driveRead_rdAddr (a : BitVec 12) (rest : List HostAction) : (s.driveRead a rest).rdAddr = a := rfl
@[simp] theorem State.driveRead_draws (a : BitVec 12) (rest : List HostAction) : (s.driveRead a rest).draws = s.draws + 1 := rfl

@[simp] theorem State.dropWait_rxbuf (rest : List HostAction) : (s.dropWait rest).rxbuf = s.rxbuf := rfl
@[simp] theorem State.dropWait_rxLen (rest : List HostAction) : (s.dropWait rest).rxLen = s.rxLen := rfl
@[simp] theorem State.dropWait_rxOvf (rest : List HostAction) : (s.dropWait rest).rxOvf = s.rxOvf := rfl
@[simp] theorem State.dropWait_txd (rest : List HostAction) : (s.dropWait rest).txd = s.txd := rfl
@[simp] theorem State.dropWait_txdLen (rest : List HostAction) : (s.dropWait rest).txdLen = s.txdLen := rfl
@[simp] theorem State.dropWait_txdOvf (rest : List HostAction) : (s.dropWait rest).txdOvf = s.txdOvf := rfl
@[simp] theorem State.dropWait_txbuf (rest : List HostAction) : (s.dropWait rest).txbuf = s.txbuf := rfl
@[simp] theorem State.dropWait_txLen (rest : List HostAction) : (s.dropWait rest).txLen = s.txLen := rfl
@[simp] theorem State.dropWait_params (rest : List HostAction) : (s.dropWait rest).params = s.params := rfl
@[simp] theorem State.dropWait_record (rest : List HostAction) : (s.dropWait rest).record = s.record := rfl
@[simp] theorem State.dropWait_status (rest : List HostAction) : (s.dropWait rest).status = s.status := rfl
@[simp] theorem State.dropWait_decCk (rest : List HostAction) : (s.dropWait rest).decCk = s.decCk := rfl
@[simp] theorem State.dropWait_txCk (rest : List HostAction) : (s.dropWait rest).txCk = s.txCk := rfl
@[simp] theorem State.dropWait_inFlight (rest : List HostAction) : (s.dropWait rest).inFlight = s.inFlight := rfl
@[simp] theorem State.dropWait_inbox (rest : List HostAction) : (s.dropWait rest).inbox = rest := rfl
@[simp] theorem State.dropWait_rdAddr (rest : List HostAction) : (s.dropWait rest).rdAddr = s.rdAddr := rfl
@[simp] theorem State.dropWait_draws (rest : List HostAction) : (s.dropWait rest).draws = s.draws := rfl

@[simp] theorem State.placeItem_rxbuf (it : Item) : (s.placeItem it).rxbuf = s.rxbuf := rfl
@[simp] theorem State.placeItem_rxLen (it : Item) : (s.placeItem it).rxLen = s.rxLen := rfl
@[simp] theorem State.placeItem_rxOvf (it : Item) : (s.placeItem it).rxOvf = s.rxOvf := rfl
@[simp] theorem State.placeItem_txd (it : Item) : (s.placeItem it).txd = s.txd := rfl
@[simp] theorem State.placeItem_txdLen (it : Item) : (s.placeItem it).txdLen = s.txdLen := rfl
@[simp] theorem State.placeItem_txdOvf (it : Item) : (s.placeItem it).txdOvf = s.txdOvf := rfl
@[simp] theorem State.placeItem_txbuf (it : Item) : (s.placeItem it).txbuf = s.txbuf := rfl
@[simp] theorem State.placeItem_txLen (it : Item) : (s.placeItem it).txLen = s.txLen := rfl
@[simp] theorem State.placeItem_params (it : Item) : (s.placeItem it).params = s.params := rfl
@[simp] theorem State.placeItem_record (it : Item) : (s.placeItem it).record = s.record := rfl
@[simp] theorem State.placeItem_status (it : Item) : (s.placeItem it).status = s.status := rfl
@[simp] theorem State.placeItem_decCk (it : Item) : (s.placeItem it).decCk = s.decCk := rfl
@[simp] theorem State.placeItem_txCk (it : Item) : (s.placeItem it).txCk = s.txCk := rfl
@[simp] theorem State.placeItem_inFlight (it : Item) : (s.placeItem it).inFlight = some it := rfl
@[simp] theorem State.placeItem_inbox (it : Item) : (s.placeItem it).inbox = .awaitReady :: s.inbox := rfl
@[simp] theorem State.placeItem_rdAddr (it : Item) : (s.placeItem it).rdAddr = s.rdAddr := rfl
@[simp] theorem State.placeItem_draws (it : Item) : (s.placeItem it).draws = s.draws := rfl

@[simp] theorem State.assertReset_rxbuf (rest : List HostAction) : (s.assertReset rest).rxbuf = State.reset.rxbuf := rfl
@[simp] theorem State.assertReset_rxLen (rest : List HostAction) : (s.assertReset rest).rxLen = State.reset.rxLen := rfl
@[simp] theorem State.assertReset_rxOvf (rest : List HostAction) : (s.assertReset rest).rxOvf = State.reset.rxOvf := rfl
@[simp] theorem State.assertReset_txd (rest : List HostAction) : (s.assertReset rest).txd = State.reset.txd := rfl
@[simp] theorem State.assertReset_txdLen (rest : List HostAction) : (s.assertReset rest).txdLen = State.reset.txdLen := rfl
@[simp] theorem State.assertReset_txdOvf (rest : List HostAction) : (s.assertReset rest).txdOvf = State.reset.txdOvf := rfl
@[simp] theorem State.assertReset_txbuf (rest : List HostAction) : (s.assertReset rest).txbuf = State.reset.txbuf := rfl
@[simp] theorem State.assertReset_txLen (rest : List HostAction) : (s.assertReset rest).txLen = State.reset.txLen := rfl
@[simp] theorem State.assertReset_params (rest : List HostAction) : (s.assertReset rest).params = State.reset.params := rfl
@[simp] theorem State.assertReset_record (rest : List HostAction) : (s.assertReset rest).record = State.reset.record := rfl
@[simp] theorem State.assertReset_status (rest : List HostAction) : (s.assertReset rest).status = State.reset.status := rfl
@[simp] theorem State.assertReset_decCk (rest : List HostAction) : (s.assertReset rest).decCk = State.reset.decCk := rfl
@[simp] theorem State.assertReset_txCk (rest : List HostAction) : (s.assertReset rest).txCk = State.reset.txCk := rfl
@[simp] theorem State.assertReset_inFlight (rest : List HostAction) : (s.assertReset rest).inFlight = State.reset.inFlight := rfl
@[simp] theorem State.assertReset_inbox (rest : List HostAction) : (s.assertReset rest).inbox = rest := rfl
@[simp] theorem State.assertReset_rdAddr (rest : List HostAction) : (s.assertReset rest).rdAddr = s.rdAddr := rfl
@[simp] theorem State.assertReset_draws (rest : List HostAction) : (s.assertReset rest).draws = s.draws := rfl

@[simp] theorem Status.withBadOp_decDone (st : Status) (b : Bool) : (st.withBadOp b).decDone = st.decDone := rfl
@[simp] theorem Status.withBadOp_decOk (st : Status) (b : Bool) : (st.withBadOp b).decOk = st.decOk := rfl
@[simp] theorem Status.withBadOp_decReason (st : Status) (b : Bool) : (st.withBadOp b).decReason = st.decReason := rfl
@[simp] theorem Status.withBadOp_decCkDbl (st : Status) (b : Bool) : (st.withBadOp b).decCkDbl = st.decCkDbl := rfl
@[simp] theorem Status.withBadOp_txErr (st : Status) (b : Bool) : (st.withBadOp b).txErr = st.txErr := rfl
@[simp] theorem Status.withBadOp_txCause (st : Status) (b : Bool) : (st.withBadOp b).txCause = st.txCause := rfl
@[simp] theorem Status.withBadOp_badOp (st : Status) (b : Bool) : (st.withBadOp b).badOp = b := rfl

@[simp] theorem Status.afterDecode_decDone (st : Status) (ok : Bool) (r : DecReason) (dbl : Bool) : (st.afterDecode ok r dbl).decDone = true := rfl
@[simp] theorem Status.afterDecode_decOk (st : Status) (ok : Bool) (r : DecReason) (dbl : Bool) : (st.afterDecode ok r dbl).decOk = ok := rfl
@[simp] theorem Status.afterDecode_decReason (st : Status) (ok : Bool) (r : DecReason) (dbl : Bool) : (st.afterDecode ok r dbl).decReason = r := rfl
@[simp] theorem Status.afterDecode_decCkDbl (st : Status) (ok : Bool) (r : DecReason) (dbl : Bool) : (st.afterDecode ok r dbl).decCkDbl = dbl := rfl
@[simp] theorem Status.afterDecode_txErr (st : Status) (ok : Bool) (r : DecReason) (dbl : Bool) : (st.afterDecode ok r dbl).txErr = st.txErr := rfl
@[simp] theorem Status.afterDecode_txCause (st : Status) (ok : Bool) (r : DecReason) (dbl : Bool) : (st.afterDecode ok r dbl).txCause = st.txCause := rfl
@[simp] theorem Status.afterDecode_badOp (st : Status) (ok : Bool) (r : DecReason) (dbl : Bool) : (st.afterDecode ok r dbl).badOp = false := rfl

@[simp] theorem Status.afterTx_decDone (st : Status) (err : Bool) (c : TxCause) : (st.afterTx err c).decDone = st.decDone := rfl
@[simp] theorem Status.afterTx_decOk (st : Status) (err : Bool) (c : TxCause) : (st.afterTx err c).decOk = st.decOk := rfl
@[simp] theorem Status.afterTx_decReason (st : Status) (err : Bool) (c : TxCause) : (st.afterTx err c).decReason = st.decReason := rfl
@[simp] theorem Status.afterTx_decCkDbl (st : Status) (err : Bool) (c : TxCause) : (st.afterTx err c).decCkDbl = st.decCkDbl := rfl
@[simp] theorem Status.afterTx_txErr (st : Status) (err : Bool) (c : TxCause) : (st.afterTx err c).txErr = err := rfl
@[simp] theorem Status.afterTx_txCause (st : Status) (err : Bool) (c : TxCause) : (st.afterTx err c).txCause = c := rfl
@[simp] theorem Status.afterTx_badOp (st : Status) (err : Bool) (c : TxCause) : (st.afterTx err c).badOp = false := rfl

end Sys2Proof.Machine
end

