-- ==== Sys2Proof/Laws/Ops.lean ====
section
/-! SUPPORT. One lemma per shared operation that says once what it does: the frames, the pushes, the loading of the RX
buffer, the TX commit and failure, the verdicts of DECODE, the steps of the machine. -/

namespace Sys2Proof.Machine

@[simp] theorem SameRx.refl (s : State) : SameRx s s := ⟨rfl, rfl, fun _ => rfl⟩
@[simp] theorem SameTxd.refl (s : State) : SameTxd s s := ⟨rfl, rfl, fun _ => rfl⟩
@[simp] theorem SameTx.refl (s : State) : SameTx s s := ⟨rfl, fun _ => rfl, rfl, rfl, rfl⟩
@[simp] theorem SameParams.refl (s : State) : SameParams s s := fun _ => rfl
@[simp] theorem SameDec.refl (s : State) : SameDec s s := ⟨rfl, rfl, rfl, rfl, rfl, rfl⟩
@[simp] theorem SameHost.refl (s : State) : SameHost s s := ⟨rfl, rfl, rfl, rfl⟩

theorem SameTxd.trans {s t u : State} (h : SameTxd s t) (h' : SameTxd t u) : SameTxd s u :=
  ⟨h'.1.trans h.1, h'.2.trans h.2, fun k => (h'.3 k).trans (h.3 k)⟩
theorem SameTx.trans {s t u : State} (h : SameTx s t) (h' : SameTx t u) : SameTx s u :=
  ⟨h'.1.trans h.1, fun k => (h'.2 k).trans (h.2 k), h'.3.trans h.3, h'.4.trans h.4, h'.5.trans h.5⟩
theorem SameParams.trans {s t u : State} (h : SameParams s t) (h' : SameParams t u) : SameParams s u :=
  fun i => (h' i).trans (h i)
theorem SameDec.trans {s t u : State} (h : SameDec s t) (h' : SameDec t u) : SameDec s u :=
  ⟨h'.1.trans h.1, h'.2.trans h.2, h'.3.trans h.3, h'.4.trans h.4, h'.5.trans h.5, h'.6.trans h.6⟩
theorem SameHost.trans {s t u : State} (h : SameHost s t) (h' : SameHost t u) : SameHost s u :=
  ⟨h'.1.trans h.1, h'.2.trans h.2, h'.3.trans h.3, h'.4.trans h.4⟩

/-- A parameter register after a write (43_command_marshaller.md R271). -/
theorem State.param_setParam (s : State) (i j : BitVec 4) (v : Half) :
    (s.setParam i v).param j = if j = i then paramMask i v else s.param j := by
  simp only [State.param, State.setParam_params, Vector.getElem_set]
  by_cases h : i = j
  · simp [h]
  · have hj : j ≠ i := fun e => h e.symm
    have hn : i.toNat ≠ j.toNat := fun e => h (BitVec.eq_of_toNat_eq e)
    simp [hj, hn]

/-- What a TX commit leaves (42_tx_framer.md R256). -/
theorem State.txCommit_committed {s : State} (hw : s.txbuf.wf = true) {F : List Byte} (hF : F.length < 512)
    (ck : Half) : Committed s (s.txCommit F ck) F ck where
  frame := by
    simp only [State.txBytes, State.txCommit_txbuf, State.txCommit_txLen, BitVec.toNat_ofNat]
    rw [Nat.mod_eq_of_lt (by omega)]
    exact Memory.readBytes_writeBytes hw F
  txLen := by simp only [State.txCommit_txLen, BitVec.toNat_ofNat]; omega
  beyond k hk := Memory.read_writeBytes_ne _ F (Or.inr (by omega))
  txCk := rfl
  txErr := rfl
  txCause := rfl
  badOp := rfl
  rx := ⟨rfl, rfl, fun _ => rfl⟩
  txd := ⟨rfl, rfl, fun _ => rfl⟩
  params := fun _ => rfl
  dec := ⟨rfl, rfl, rfl, rfl, rfl, rfl⟩
  host := ⟨rfl, rfl, rfl, rfl⟩

/-- What a failed TX request leaves (R257). -/
theorem State.txFail_failed (s : State) (c : TxCause) : TxFailed s (s.txFail c) c where
  txLen := rfl
  bytes _ := rfl
  txErr := rfl
  txCause := rfl
  badOp := rfl
  txCk := rfl
  rx := ⟨rfl, rfl, fun _ => rfl⟩
  txd := ⟨rfl, rfl, fun _ => rfl⟩
  params := fun _ => rfl
  dec := ⟨rfl, rfl, rfl, rfl, rfl, rfl⟩
  host := ⟨rfl, rfl, rfl, rfl⟩

/-- What a rejected DECODE leaves (41_rx_parser.md R215). -/
theorem State.rejectDecode_rejected (s : State) (r : DecReason) (ck : Option Half) :
    Rejected s (s.rejectDecode r ck) r (ck.getD s.decCk) where
  decDone := rfl
  decOk := rfl
  decReason := rfl
  decCkDbl := rfl
  badOp := rfl
  decCk := rfl
  record := rfl
  rx := ⟨rfl, rfl, fun _ => rfl⟩
  txd := ⟨rfl, rfl, fun _ => rfl⟩
  tx := ⟨rfl, fun _ => rfl, rfl, rfl, rfl⟩
  params := fun _ => rfl
  host := ⟨rfl, rfl, rfl, rfl⟩

/-- The two outcomes of DECODE. -/
theorem State.decodeRx_cases (s : State) :
    (∃ r ck, judge s.rxOvf s.rxBytes = .reject r ck ∧ s.decodeRx = s.rejectDecode r ck) ∨
    (∃ ck dbl, judge s.rxOvf s.rxBytes = .valid ck dbl ∧
      s.decodeRx = s.commitRecord (frameRecord s.rxBytes) ck dbl) := by
  unfold State.decodeRx
  cases h : judge s.rxOvf s.rxBytes with
  | reject r ck => exact .inl ⟨r, ck, rfl, rfl⟩
  | valid ck dbl => exact .inr ⟨ck, dbl, rfl, rfl⟩

/-- Everything but the record, DEC_CK, STATUS.DEC_* and BAD_OP is as before (10_state.md R50). -/
structure SameButDec (s t : State) : Prop where
  rx : SameRx s t
  txd : SameTxd s t
  tx : SameTx s t
  params : SameParams s t
  host : SameHost s t

/-- Everything but TXBUF, TXLEN, TX_CK, STATUS.TX_* and BAD_OP is as before (R50). -/
structure SameButTx (s t : State) : Prop where
  rx : SameRx s t
  txd : SameTxd s t
  params : SameParams s t
  dec : SameDec s t
  host : SameHost s t

/-- Everything but the TX staging buffer and BAD_OP is as before (R50). -/
structure SameButTxd (s t : State) : Prop where
  rx : SameRx s t
  tx : SameTx s t
  params : SameParams s t
  dec : SameDec s t
  host : SameHost s t

/-- What DECODE keeps (41_rx_parser.md R214, R215). -/
theorem State.decodeRx_same (s : State) : SameButDec s s.decodeRx := by
  obtain ⟨r, ck, _, h⟩ | ⟨ck, dbl, _, h⟩ := s.decodeRx_cases <;> rw [h] <;>
    exact ⟨⟨rfl, rfl, fun _ => rfl⟩, ⟨rfl, rfl, fun _ => rfl⟩, ⟨rfl, fun _ => rfl, rfl, rfl, rfl⟩, fun _ => rfl,
      ⟨rfl, rfl, rfl, rfl⟩⟩

/-- What DECODE always writes (R214, R215). -/
theorem State.decodeRx_status (s : State) :
    s.decodeRx.status.decDone = true ∧ s.decodeRx.status.badOp = false := by
  obtain ⟨r, ck, _, h⟩ | ⟨ck, dbl, _, h⟩ := s.decodeRx_cases <;> rw [h] <;> exact ⟨rfl, rfl⟩

/-- What a TX commit keeps (42_tx_framer.md R256). -/
theorem State.txCommit_same (s : State) (F : List Byte) (ck : Half) : SameButTx s (s.txCommit F ck) :=
  ⟨⟨rfl, rfl, fun _ => rfl⟩, ⟨rfl, rfl, fun _ => rfl⟩, fun _ => rfl, ⟨rfl, rfl, rfl, rfl, rfl, rfl⟩, ⟨rfl, rfl, rfl, rfl⟩⟩

/-- What a TX failure keeps (R257). -/
theorem State.txFail_same (s : State) (c : TxCause) : SameButTx s (s.txFail c) :=
  ⟨⟨rfl, rfl, fun _ => rfl⟩, ⟨rfl, rfl, fun _ => rfl⟩, fun _ => rfl, ⟨rfl, rfl, rfl, rfl, rfl, rfl⟩, ⟨rfl, rfl, rfl, rfl⟩⟩

/-- What an emission keeps. -/
theorem State.emit_same (s : State) (D : List Byte) : SameButTx s (s.emit D) := s.txCommit_same _ _

/-- What emitting a data region does: the frame, or the overflow. -/
theorem State.emitRegion_cases (s : State) (D : List Byte) :
    (D.length ≤ 253 ∧ s.emitRegion D = s.emit D) ∨ (253 < D.length ∧ s.emitRegion D = s.txFail .txdOverflow) := by
  by_cases h : D.length ≤ 253
  · exact .inl ⟨h, by simp [State.emitRegion, Config.txdBytes, h]⟩
  · exact .inr ⟨by omega, by simp [State.emitRegion, Config.txdBytes, h]⟩

theorem State.emitRegion_same (s : State) (D : List Byte) : SameButTx s (s.emitRegion D) := by
  obtain ⟨_, h⟩ | ⟨_, h⟩ := s.emitRegion_cases D <;> rw [h]
  · exact s.emit_same D
  · exact s.txFail_same _

/-- What a valid verdict says of the buffer. -/
structure ValidFrame (ovf : Bool) (B : List Byte) (s : Half) (dbl : Bool) : Prop where
  ovf : ovf = false
  sync0 : byteAt B 0 = Config.sync
  sync1 : byteAt B 1 = Config.sync
  length : 3 + (byteAt B 2).toNat = B.length
  ck : s = ck16 (B.take (B.length - 2))
  trailer : ckMatch s (extract B (B.length - 2) .two .be .u) = if dbl then .doubled else .plain
  cmd : byteAt B 3 = Config.cmdTelemetrySingle ∨ byteAt B 3 = Config.cmdTelemetryDual
  data : 18 ≤ (byteAt B 2).toNat - 3

/-- What validation steps 5 and 6 answer. -/
theorem judgeCommand_valid {B : List Byte} {s ck : Half} {d dbl : Bool} (h : judgeCommand B s d = .valid ck dbl) :
    ck = s ∧ dbl = d ∧ (byteAt B 3 = Config.cmdTelemetrySingle ∨ byteAt B 3 = Config.cmdTelemetryDual) ∧
      18 ≤ (byteAt B 2).toNat - 3 := by
  unfold judgeCommand at h
  split at h
  · cases h
  · split at h
    · cases h
    · rename_i h₁ h₂
      cases h
      exact ⟨rfl, rfl, by tauto, by simpa [Config.singleMin] using h₂⟩

theorem judgeCommand_reject {B : List Byte} {s : Half} {d : Bool} {r : DecReason} {ck : Option Half}
    (h : judgeCommand B s d = .reject r ck) : ck = some s ∧ (r = .cmd ∨ r = .dataShort) := by
  unfold judgeCommand at h
  split at h
  · cases h; simp
  · split at h
    · cases h; simp
    · cases h

theorem judgeChecksum_valid {B : List Byte} {ck : Half} {dbl : Bool} (h : judgeChecksum B = .valid ck dbl) :
    ck = ck16 (B.take (B.length - 2)) ∧
    ckMatch ck (extract B (B.length - 2) .two .be .u) = (if dbl then .doubled else .plain) ∧
    (byteAt B 3 = Config.cmdTelemetrySingle ∨ byteAt B 3 = Config.cmdTelemetryDual) ∧
    18 ≤ (byteAt B 2).toNat - 3 := by
  unfold judgeChecksum at h
  cases hm : ckMatch (ck16 (B.take (B.length - 2))) (extract B (B.length - 2) .two .be .u) with
  | none => simp [hm] at h
  | plain =>
    simp only [hm] at h
    obtain ⟨rfl, rfl, hc, hd⟩ := judgeCommand_valid h
    exact ⟨rfl, by simp [hm], hc, hd⟩
  | doubled =>
    simp only [hm] at h
    obtain ⟨rfl, rfl, hc, hd⟩ := judgeCommand_valid h
    exact ⟨rfl, by simp [hm], hc, hd⟩

theorem judgeChecksum_reject {B : List Byte} {r : DecReason} {ck : Option Half} (h : judgeChecksum B = .reject r ck) :
    ck = some (ck16 (B.take (B.length - 2))) ∧ (r = .checksum ∨ r = .cmd ∨ r = .dataShort) := by
  unfold judgeChecksum at h
  cases hm : ckMatch (ck16 (B.take (B.length - 2))) (extract B (B.length - 2) .two .be .u) with
  | none => simp only [hm] at h; cases h; simp
  | plain =>
    simp only [hm] at h
    obtain ⟨rfl, hr⟩ := judgeCommand_reject h
    exact ⟨rfl, .inr hr⟩
  | doubled =>
    simp only [hm] at h
    obtain ⟨rfl, hr⟩ := judgeCommand_reject h
    exact ⟨rfl, .inr hr⟩

/-- Everything a valid verdict says (41_rx_parser.md R201 to R208). -/
theorem judge_valid {ovf : Bool} {B : List Byte} {ck : Half} {dbl : Bool} (h : judge ovf B = .valid ck dbl) :
    ValidFrame ovf B ck dbl := by
  unfold judge at h
  split at h
  · cases h
  · split at h
    · cases h
    · split at h
      · cases h
      · split at h
        · cases h
        · rename_i h₁ h₂ h₃ h₄
          obtain ⟨hck, ht, hc, hd⟩ := judgeChecksum_valid h
          have hs : byteAt B 0 = Config.sync ∧ byteAt B 1 = Config.sync := by
            constructor
            · by_contra hn; exact h₂ (.inl hn)
            · by_contra hn; exact h₂ (.inr hn)
          have hl : ovf = false ∧ 3 + (byteAt B 2).toNat = B.length := by
            constructor
            · cases ovf
              · rfl
              · exact absurd (.inl rfl) h₄
            · by_contra hn; exact h₄ (.inr hn)
          exact ⟨hl.1, hs.1, hs.2, hl.2, hck, ht, hc, hd⟩

/-- Everything a rejecting verdict says: DEC_CK is computed exactly for reasons 5 to 7 (60_exceptions.md R312). -/
theorem judge_reject {ovf : Bool} {B : List Byte} {r : DecReason} {ck : Option Half}
    (h : judge ovf B = .reject r ck) :
    (ck = none ∧ (r = .short ∨ r = .sync ∨ r = .lenField ∨ r = .lenMismatch)) ∨
    (ck = some (ck16 (B.take (B.length - 2))) ∧ (r = .checksum ∨ r = .cmd ∨ r = .dataShort)) := by
  unfold judge at h
  split at h
  · cases h; simp
  · split at h
    · cases h; simp
    · split at h
      · cases h; simp
      · split at h
        · cases h; simp
        · exact .inr (judgeChecksum_reject h)

/-- A push does one of two things (41_rx_parser.md R193). -/
theorem State.rxPushByte_cases (s : State) (b : Byte) :
    (s.rxLen.toNat < 258 ∧ s.rxPushByte b = s.rxAppend b) ∨ (258 ≤ s.rxLen.toNat ∧ s.rxPushByte b = s.rxDrop) := by
  by_cases h : s.rxLen.toNat < 258
  · exact .inl ⟨h, by simp [State.rxPushByte, Config.rxBufBytes, h]⟩
  · exact .inr ⟨by omega, by simp [State.rxPushByte, Config.rxBufBytes, h]⟩

/-- A staging push does one of two things (42_tx_framer.md R243). -/
theorem State.txdPushByte_cases (s : State) (b : Byte) :
    (s.txdLen.toNat < 253 ∧ s.txdPushByte b = s.txdAppend b) ∨
    (253 ≤ s.txdLen.toNat ∧ s.txdPushByte b = s.txdDrop) := by
  by_cases h : s.txdLen.toNat < 253
  · exact .inl ⟨h, by simp [State.txdPushByte, Config.txdBytes, h]⟩
  · exact .inr ⟨by omega, by simp [State.txdPushByte, Config.txdBytes, h]⟩

/-- What a staging push keeps, and that it clears BAD_OP (42_tx_framer.md R243). -/
theorem State.txdPushByte_same (s : State) (b : Byte) :
    SameButTxd s (s.txdPushByte b) ∧ (s.txdPushByte b).status.badOp = false := by
  obtain ⟨_, h⟩ | ⟨_, h⟩ := s.txdPushByte_cases b <;> rw [h] <;>
    exact ⟨⟨⟨rfl, rfl, fun _ => rfl⟩, ⟨rfl, fun _ => rfl, rfl, rfl, rfl⟩, fun _ => rfl, ⟨rfl, rfl, rfl, rfl, rfl, rfl⟩,
      ⟨rfl, rfl, rfl, rfl⟩⟩, rfl⟩

/-- The accepted push appends to the logical receive buffer. -/
theorem State.rxBytes_rxAppend {s : State} (hw : s.rxbuf.wf = true) (hl : s.rxLen.toNat < 258) (b : Byte) :
    (s.rxAppend b).rxBytes = s.rxBytes ++ [b] := by
  have hn : (s.rxLen + 1).toNat = s.rxLen.toNat + 1 := by simp [BitVec.toNat_add]; omega
  rw [State.rxBytes, State.rxAppend_rxbuf, State.rxAppend_rxLen, hn, Memory.readBytes_succ,
    Memory.read_write_same hw, State.rxBytes]
  congr 1
  exact Memory.readBytes_congr fun k hk => Memory.read_write_ne _ _ (by omega)

@[simp] theorem State.rxBytes_length (s : State) : s.rxBytes.length = s.rxLen.toNat := by simp [State.rxBytes]
@[simp] theorem State.txdBytes_length (s : State) : s.txdBytes.length = s.txdLen.toNat := by simp [State.txdBytes]
@[simp] theorem State.txBytes_length (s : State) : s.txBytes.length = s.txLen.toNat := by simp [State.txBytes]

/-- What a run of pushes keeps: everything but the RX buffer and BAD_OP, which it clears. -/
structure RxPushed (s t : State) : Prop where
  wf : s.rxbuf.wf = true → t.rxbuf.wf = true
  within : s.rxbuf.within Config.rxBufBytes = true → t.rxbuf.within Config.rxBufBytes = true
  txd : SameTxd s t
  tx : SameTx s t
  params : SameParams s t
  dec : SameDec s t
  host : SameHost s t
  paramsEq : t.params = s.params
  txdEq : t.txd = s.txd
  txbufEq : t.txbuf = s.txbuf

theorem RxPushed.refl (s : State) : RxPushed s s :=
  ⟨id, id, .refl s, .refl s, .refl s, .refl s, .refl s, rfl, rfl, rfl⟩

theorem RxPushed.trans {s t u : State} (h : RxPushed s t) (h' : RxPushed t u) : RxPushed s u :=
  ⟨fun w => h'.wf (h.wf w), fun w => h'.within (h.within w), h.txd.trans h'.txd, h.tx.trans h'.tx, h.params.trans h'.params,
   h.dec.trans h'.dec, h.host.trans h'.host, h'.paramsEq.trans h.paramsEq, h'.txdEq.trans h.txdEq,
   h'.txbufEq.trans h.txbufEq⟩

theorem State.rxPushByte_pushed (s : State) (b : Byte) : RxPushed s (s.rxPushByte b) := by
  obtain ⟨hl, h⟩ | ⟨_, h⟩ := s.rxPushByte_cases b <;> rw [h]
  · exact ⟨fun w => Memory.wf_write w _ b, fun w => Memory.within_write w hl b, ⟨rfl, rfl, fun _ => rfl⟩,
      ⟨rfl, fun _ => rfl, rfl, rfl, rfl⟩, fun _ => rfl, ⟨rfl, rfl, rfl, rfl, rfl, rfl⟩, ⟨rfl, rfl, rfl, rfl⟩, rfl, rfl, rfl⟩
  · exact ⟨id, id, ⟨rfl, rfl, fun _ => rfl⟩,
      ⟨rfl, fun _ => rfl, rfl, rfl, rfl⟩, fun _ => rfl, ⟨rfl, rfl, rfl, rfl, rfl, rfl⟩, ⟨rfl, rfl, rfl, rfl⟩, rfl, rfl, rfl⟩

/-- A run of pushes, whatever the bytes, writes the RX buffer alone. -/
theorem State.foldl_pushed (s : State) (bytes : List Byte) : RxPushed s (bytes.foldl State.rxPushByte s) := by
  induction bytes generalizing s with
  | nil => exact .refl s
  | cons b bytes ih => exact (s.rxPushByte_pushed b).trans (ih _)

/-- Loading the RX buffer writes it alone. -/
theorem State.rxLoad_pushed (s : State) (bytes : List Byte) : RxPushed s (s.rxLoad bytes) := by
  have hc : RxPushed s s.rxClear := ⟨id, id, ⟨rfl, rfl, fun _ => rfl⟩, ⟨rfl, fun _ => rfl, rfl, rfl, rfl⟩, fun _ => rfl,
    ⟨rfl, rfl, rfl, rfl, rfl, rfl⟩, ⟨rfl, rfl, rfl, rfl⟩, rfl, rfl, rfl⟩
  exact hc.trans (s.rxClear.foldl_pushed bytes)

/-- A run of pushes: the first 258 bytes are held, and the overflow flag says whether there were more. -/
theorem State.foldl_rxPushByte {s : State} (hw : s.rxbuf.wf = true) (hl : s.rxLen.toNat ≤ 258)
    (bytes : List Byte) :
    (bytes.foldl State.rxPushByte s).rxBytes = (s.rxBytes ++ bytes).take 258 ∧
    (bytes.foldl State.rxPushByte s).rxOvf = (s.rxOvf || decide (258 < s.rxLen.toNat + bytes.length)) ∧
    (bytes.foldl State.rxPushByte s).status.badOp = (if bytes = [] then s.status.badOp else false) ∧
    RxPushed s (bytes.foldl State.rxPushByte s) := by
  induction bytes generalizing s with
  | nil =>
    refine ⟨?_, ?_, ?_, RxPushed.refl s⟩
    · rw [List.append_nil, List.take_of_length_le (by simpa using hl)]; rfl
    · have : ¬ 258 < s.rxLen.toNat := by omega
      simp [this]
    · rfl
  | cons b bytes ih =>
    have hp := s.rxPushByte_pushed b
    have hstep : (s.rxPushByte b).rxLen.toNat ≤ 258 ∧
        (s.rxPushByte b).rxLen.toNat = min 258 (s.rxLen.toNat + 1) ∧
        (s.rxPushByte b).rxBytes = (s.rxBytes ++ [b]).take 258 ∧
        (s.rxPushByte b).rxOvf = (s.rxOvf || decide (258 < s.rxLen.toNat + 1)) := by
      obtain ⟨hlt, h⟩ | ⟨hge, h⟩ := s.rxPushByte_cases b <;> rw [h]
      · have hn : (s.rxLen + 1).toNat = s.rxLen.toNat + 1 := by simp [BitVec.toNat_add]; omega
        refine ⟨by simp; omega, by simp only [State.rxAppend_rxLen, hn]; omega, ?_, ?_⟩
        · rw [State.rxBytes_rxAppend hw hlt, List.take_of_length_le (by simp; omega)]
        · have : ¬ 258 < s.rxLen.toNat + 1 := by omega
          simp [this]
      · refine ⟨by simpa using hl, by simp only [State.rxDrop_rxLen]; omega, ?_, ?_⟩
        · have : s.rxBytes.length = 258 := by simp; omega
          rw [List.take_append_of_le_length (by omega), List.take_of_length_le (by omega)]; rfl
        · have : 258 < s.rxLen.toNat + 1 := by omega
          simp [this]
    obtain ⟨h1, h2, h3, h4⟩ := hstep
    obtain ⟨i1, i2, i3, i4⟩ := ih (hp.wf hw) h1
    simp only [List.foldl_cons]
    refine ⟨?_, ?_, ?_, hp.trans i4⟩
    · rw [i1, h3]
      have hs : s.rxBytes.length = s.rxLen.toNat := by simp
      by_cases hlt : s.rxLen.toNat < 258
      · rw [List.take_of_length_le (l := s.rxBytes ++ [b]) (by simp; omega), List.append_assoc]; rfl
      · rw [List.take_append_of_le_length (l₁ := s.rxBytes) (by omega),
          List.take_of_length_le (l := s.rxBytes) (by omega),
          List.take_append_of_le_length (by omega), List.take_append_of_le_length (by omega)]
    · rw [i2, h4, h2]
      simp only [List.length_cons, Bool.or_assoc]
      congr 1
      rw [← Bool.decide_or]
      congr 1
      apply propext
      omega
    · rw [i3]
      have : (s.rxPushByte b).status.badOp = false := by
        obtain ⟨_, h⟩ | ⟨_, h⟩ := s.rxPushByte_cases b <;> rw [h] <;> rfl
      simp [this]

/-- What loading the RX buffer leaves (30_encoding.md R133, 41_rx_parser.md R194). -/
theorem State.rxLoad_spec {s : State} (hw : s.rxbuf.wf = true) (bytes : List Byte) :
    (s.rxLoad bytes).rxBytes = bytes.take 258 ∧
    (s.rxLoad bytes).rxOvf = decide (258 < bytes.length) ∧
    (s.rxLoad bytes).status.badOp = false ∧
    RxPushed s (s.rxLoad bytes) := by
  obtain ⟨h1, h2, h3, h4⟩ := State.foldl_rxPushByte (s := s.rxClear) hw (by simp) bytes
  refine ⟨?_, ?_, ?_, s.rxLoad_pushed bytes⟩
  · rw [State.rxLoad, h1]
    have : s.rxClear.rxBytes = [] := by
      apply List.eq_nil_of_length_eq_zero; simp
    rw [this]; rfl
  · rw [State.rxLoad, h2]; simp
  · rw [State.rxLoad, h3]; split <;> rfl

end Sys2Proof.Machine
end

