-- ==== Sys2Proof/Laws/PerInstr.lean ====
section
/-! SUPPORT. Statements per instruction: the encoder's output matches its row of the opcode table. -/

namespace Sys2Proof.Laws

/-- What each row of the table is selected by: OP, bits 31:28 of a request word, or the CMD byte of a wire row. -/
def rowCode : Instr → Nat
  | .nop => 0x0
  | .rxClr => 0x1
  | .rxPush _ => 0x2
  | .decode => 0x3
  | .txdClr => 0x4
  | .txdPush _ => 0x5
  | .frame => 0x6
  | .bind => 0x7
  | .query => 0x8
  | .target _ _ => 0x9
  | .setp _ _ => 0xA
  | .set => 0xB
  | .reservedC => 0xC
  | .reservedD => 0xD
  | .reservedE => 0xE
  | .reservedF => 0xF
  | .wireBind => 0x00
  | .wireQuery => 0x01
  | .wireTelemetrySingle _ _ => 0x01
  | .wireSet _ => 0x02
  | .wireTelemetryDual _ _ => 0x02
  | .wireTargetLeft _ => 0x05
  | .wireTargetRight _ => 0x06

/-- The encoding is selected by its row's code: bits 31:28 of the request word, or the byte at frame index 3. -/
def MatchesRow.Statement (i : Instr) : Prop :=
  match encode i with
  | .request w => w.toNat / 0x10000000 = rowCode i
  | .frameIn bytes => (byteAt bytes 3).toNat = rowCode i
  | .frameOut bytes => (byteAt bytes 3).toNat = rowCode i

/-- A request word as a number. -/
theorem requestWord_toNat (op hi lo : Nat) (hop : op < 16) (h : hi * 0x10000 + lo < 0x10000000) :
    (requestWord op hi lo).toNat = op * 0x10000000 + hi * 0x10000 + lo := by
  simp only [requestWord, BitVec.toNat_ofNat]
  omega

/-- A word whose operand bits stay below bit 28 is selected by its OP. -/
theorem requestWord_code (op hi lo : Nat) (hop : op < 16) (h : hi * 0x10000 + lo < 0x10000000) :
    (requestWord op hi lo).toNat / 0x10000000 = op := by
  rw [requestWord_toNat op hi lo hop h]
  omega

theorem MatchesRow.nop : MatchesRow.Statement .nop :=
  requestWord_code _ _ _ (by decide) (by omega)
theorem MatchesRow.rxClr : MatchesRow.Statement .rxClr :=
  requestWord_code _ _ _ (by decide) (by omega)
theorem MatchesRow.rxPush (b : Byte) : MatchesRow.Statement (.rxPush b) :=
  requestWord_code _ _ _ (by decide) (by omega)
theorem MatchesRow.decode : MatchesRow.Statement .decode :=
  requestWord_code _ _ _ (by decide) (by omega)
theorem MatchesRow.txdClr : MatchesRow.Statement .txdClr :=
  requestWord_code _ _ _ (by decide) (by omega)
theorem MatchesRow.txdPush (b : Byte) : MatchesRow.Statement (.txdPush b) :=
  requestWord_code _ _ _ (by decide) (by omega)
theorem MatchesRow.frame : MatchesRow.Statement .frame :=
  requestWord_code _ _ _ (by decide) (by omega)
theorem MatchesRow.bind : MatchesRow.Statement .bind :=
  requestWord_code _ _ _ (by decide) (by omega)
theorem MatchesRow.query : MatchesRow.Statement .query :=
  requestWord_code _ _ _ (by decide) (by omega)
theorem MatchesRow.target (z : Zone) (v : Half) : MatchesRow.Statement (.target z v) :=
  requestWord_code _ _ _ (by decide) (by cases z <;> simp only [zoneBit] <;> omega)
theorem MatchesRow.setp (k : BitVec 4) (v : Half) : MatchesRow.Statement (.setp k v) :=
  requestWord_code _ _ _ (by decide) (by omega)
theorem MatchesRow.set : MatchesRow.Statement .set :=
  requestWord_code _ _ _ (by decide) (by omega)
theorem MatchesRow.reservedC : MatchesRow.Statement .reservedC :=
  requestWord_code _ _ _ (by decide) (by omega)
theorem MatchesRow.reservedD : MatchesRow.Statement .reservedD :=
  requestWord_code _ _ _ (by decide) (by omega)
theorem MatchesRow.reservedE : MatchesRow.Statement .reservedE :=
  requestWord_code _ _ _ (by decide) (by omega)
theorem MatchesRow.reservedF : MatchesRow.Statement .reservedF :=
  requestWord_code _ _ _ (by decide) (by omega)
theorem MatchesRow.wireBind : MatchesRow.Statement .wireBind :=
  rfl
theorem MatchesRow.wireQuery : MatchesRow.Statement .wireQuery :=
  rfl
theorem MatchesRow.wireTelemetrySingle (body : List Byte) (ck : Half) : MatchesRow.Statement (.wireTelemetrySingle body ck) :=
  rfl
theorem MatchesRow.wireSet (body : List Byte) : MatchesRow.Statement (.wireSet body) :=
  rfl
theorem MatchesRow.wireTelemetryDual (body : List Byte) (ck : Half) : MatchesRow.Statement (.wireTelemetryDual body ck) :=
  rfl
theorem MatchesRow.wireTargetLeft (t : Byte) : MatchesRow.Statement (.wireTargetLeft t) :=
  rfl
theorem MatchesRow.wireTargetRight (t : Byte) : MatchesRow.Statement (.wireTargetRight t) :=
  rfl

end Sys2Proof.Laws
end

