-- ==== Sys2Proof/Laws/Step.lean ====
section
/-! SUPPORT. What one step can do, said once: every proof about the step cites these and unfolds it no more. -/

namespace Sys2Proof.Machine

/-- What completing an item can answer: the decoded instruction's effect, or, for received bytes that are no frame of the
wire table, their loading and decoding. -/
theorem complete_cases {it : Item} {s t : State} (h : complete it s = .next t) :
    (∃ i, decodeItem it = .ok i ∧ exec i s.ready = .next t) ∨
    (∃ bytes e, it = .frameIn bytes ∧ decodeItem it = .error e ∧ t = s.ready.rxFrame bytes) := by
  unfold complete at h
  cases hd : decodeItem it with
  | ok i => simp only [hd] at h; exact .inl ⟨i, rfl, h⟩
  | error e =>
    cases it with
    | request w => simp only [hd] at h; cases h
    | frameIn bytes => simp only [hd] at h; cases h; exact .inr ⟨bytes, e, rfl, rfl, rfl⟩
    | frameOut bytes => simp only [hd] at h; cases h

/-- Everything one step can do when it answers a next state. -/
theorem step_cases {s t : State} (h : step s = .next t) :
    (∃ rest, s.inbox = .reset :: rest ∧ t = s.assertReset rest) ∨
    (∃ a rest, s.inbox = .read a :: rest ∧ t = s.driveRead a rest) ∨
    (∃ it, s.inFlight = some it ∧ complete it s = .next t) ∨
    (∃ rest, s.inFlight = none ∧ s.inbox = .awaitReady :: rest ∧ t = s.dropWait rest) ∨
    (∃ it rest, s.inFlight = none ∧ s.inbox = .offer it :: rest ∧ t = s.accept it rest) ∨
    (s.inFlight = none ∧ s.inbox = [] ∧ t = s) := by
  unfold step stepBody at h
  cases hb : s.inbox with
  | nil =>
    simp only [hb, completeOr] at h
    cases hf : s.inFlight with
    | none => simp only [hf] at h; cases h; tauto
    | some it => simp only [hf] at h; exact .inr (.inr (.inl ⟨it, rfl, h⟩))
  | cons a rest =>
    cases a with
    | reset => simp only [hb] at h; cases h; exact .inl ⟨rest, rfl, rfl⟩
    | read a => simp only [hb] at h; cases h; exact .inr (.inl ⟨a, rest, rfl, rfl⟩)
    | awaitReady =>
      simp only [hb, completeOr] at h
      cases hf : s.inFlight with
      | none => simp only [hf] at h; cases h; exact .inr (.inr (.inr (.inl ⟨rest, rfl, rfl, rfl⟩)))
      | some it => simp only [hf] at h; exact .inr (.inr (.inl ⟨it, rfl, h⟩))
    | offer it =>
      simp only [hb, completeOr] at h
      cases hf : s.inFlight with
      | none => simp only [hf] at h; cases h; exact .inr (.inr (.inr (.inr (.inl ⟨it, rest, rfl, rfl, rfl⟩))))
      | some it' => simp only [hf] at h; exact .inr (.inr (.inl ⟨it', rfl, h⟩))

/-- A step with an item in flight and neither rst nor a read at the head of the host's actions completes the item. -/
theorem step_inFlight {s : State} {it : Item} (hf : s.inFlight = some it)
    (hr : ∀ rest, s.inbox ≠ .reset :: rest) (ha : ∀ a rest, s.inbox ≠ .read a :: rest) : step s = complete it s := by
  unfold step stepBody
  cases hb : s.inbox with
  | nil => simp [completeOr, hf]
  | cons x rest =>
    cases x with
    | reset => exact absurd hb (hr rest)
    | read a => exact absurd hb (ha a rest)
    | awaitReady => simp [completeOr, hf]
    | offer it' => simp [completeOr, hf]

/-- Instructions in sequence, the first of which answers a next state. -/
theorem execAll_cons {i : Instr} {s t : State} (h : exec i s = .next t) (is : List Instr) :
    execAll (i :: is) s = execAll is t := by simp only [execAll, h]

/-- Pushes in sequence are a fold of the push. -/
theorem execAll_rxPush (bytes : List Byte) (is : List Instr) (s : State) :
    execAll (bytes.map Instr.rxPush ++ is) s = execAll is (bytes.foldl State.rxPushByte s) := by
  induction bytes generalizing s with
  | nil => rfl
  | cons b bytes ih => rw [List.map_cons, List.cons_append, execAll_cons rfl, ih, List.foldl_cons]

/-- The expansion of RXFRAME has the effect of State.rxFrame (30_encoding.md R133). -/
theorem execAll_expandRxFrame (bytes : List Byte) (s : State) :
    execAll (expandRxFrame bytes) s = .next (s.rxFrame bytes) := by
  rw [expandRxFrame, expandRxLoad, List.cons_append, execAll_cons rfl, execAll_rxPush]
  rfl

end Sys2Proof.Machine
end

