-- ==== Sys2Proof/Tests/Slice0.lean ====
section
/-! SUPPORT. Tests with expected values from the spec (95_test_vectors.md and the examples of the rules), the smoke test of
WellFormed, and for every statement with hypotheses a concrete state and operands that meet them. -/

namespace Sys2Proof.Tests

open Sys2Proof Sys2Proof.Machine

set_option Elab.async false

/-- F1 of 95_test_vectors.md. -/
def f1 : List Byte :=
  [0xFE, 0xFE, 0x15, 0x01, 0x00, 0x01, 0x00, 0x01, 0x04, 0x14, 0xEC, 0x02, 0x00, 0x00, 0x00, 0x00, 0x00, 0x00, 0x05, 0x64,
   0x0C, 0x08, 0x03, 0x97]

/-- F2 of 95_test_vectors.md. -/
def f2 : List Byte :=
  [0xFE, 0xFE, 0x1F, 0x02, 0x01, 0x01, 0x01, 0x02, 0xFD, 0x0A, 0xEC, 0x02, 0x1E, 0x01, 0x01, 0x02, 0x03, 0x04, 0xFE, 0x7F,
   0x18, 0x05, 0xEE, 0x00, 0x00, 0x03, 0xFF, 0xFE, 0xFD, 0xFC, 0xF0, 0x03, 0x0B, 0xB4]

/-- F1 with other trailer bytes. -/
def f1With (hi lo : Byte) : List Byte := f1.take 22 ++ [hi, lo]

/-- The machine after reset with bytes in the RX buffer. -/
def rxState (bytes : List Byte) : State :=
  { State.reset with rxbuf := Memory.writeBytes [] 0 bytes, rxLen := BitVec.ofNat 9 bytes.length }

/-- The machine after reset with bytes in the TX data staging buffer. -/
def txdState (bytes : List Byte) : State :=
  { State.reset with txd := Memory.writeBytes [] 0 bytes, txdLen := BitVec.ofNat 8 bytes.length }

/-- The machine after reset with the parameter registers given. -/
def paramState (p : Vector (BitVec 16) 16) : State := { State.reset with params := p }

/-- The state one step leaves with this item in flight. -/
def after (it : Item) (s : State) : State :=
  match step (s.placeItem it) with
  | .next t => t
  | .fault _ => s
  | .refused _ => s

/-- The state one step leaves with this request word in flight. -/
def afterWord (w : ReqWord) (s : State) : State := after (.request w) s

/-- The parameter file of 43_command_marshaller.md R294 with the given P0. -/
def exampleParams (p0 : BitVec 16) : Vector (BitVec 16) 16 :=
  #v[p0, 0x0040, 0x0140, 0xFEC0, 0x0028, 0x012C, 0x0010, 0x0007, 0xFFF8, 0x0C80, 0xFEE0, 0x0020, 0xF380, 0x0018, 0xFFE8, 0]

/-! ## WellFormed refuses an ill-formed term for each of its checks -/

theorem test_wf_single_body_too_long : (Instr.wireTelemetrySingle (List.replicate 253 0) 0).wf = false := by decide +kernel
theorem test_wf_dual_body_too_long : (Instr.wireTelemetryDual (List.replicate 253 0) 0).wf = false := by decide +kernel
theorem test_wf_set_length : (Instr.wireSet (List.replicate 15 0)).wf = false := by decide
theorem test_wf_set_lock : (Instr.wireSet [2, 0, 0, 0, 0, 0, 0, 0, 0, 0, 0, 0, 0, 0]).wf = false := by decide
theorem test_wf_set_power : (Instr.wireSet [0, 2, 0, 0, 0, 0, 0, 0, 0, 0, 0, 0, 0, 0]).wf = false := by decide
theorem test_wf_set_mode : (Instr.wireSet [0, 0, 2, 0, 0, 0, 0, 0, 0, 0, 0, 0, 0, 0]).wf = false := by decide
theorem test_wf_set_saver : (Instr.wireSet [0, 0, 0, 3, 0, 0, 0, 0, 0, 0, 0, 0, 0, 0]).wf = false := by decide
theorem test_wf_set_unit : (Instr.wireSet [0, 0, 0, 0, 0, 0, 0, 0, 0, 2, 0, 0, 0, 0]).wf = false := by decide
/-- The same five checks on the dual-zone BODY, and one for each of its reserved bytes. -/
theorem test_wf_set_dual : [0, 1, 2, 9, 15, 16, 22, 23, 24].all
    (fun k => (Instr.wireSet ((List.replicate 25 (0 : Byte)).set k 2)).wf == false) = true ∧
    (Instr.wireSet ((List.replicate 25 (0 : Byte)).set 3 3)).wf = false := by decide

/-! ## Every constructor's decoding, on a word written out from 30_encoding.md R110 to R117, R120 to R129 -/

theorem test_decode_nop : decodeRequest 0b0000_0000000000000000000000000000 = .nop := by decide
theorem test_decode_rxClr : decodeRequest 0b0001_0000000000000000000000000000 = .rxClr := by decide
theorem test_decode_rxPush : decodeRequest 0b0010_00000000000000000000_11111110 = .rxPush 0xFE := by decide
theorem test_decode_decode : decodeRequest 0b0011_0000000000000000000000000000 = .decode := by decide
theorem test_decode_txdClr : decodeRequest 0b0100_0000000000000000000000000000 = .txdClr := by decide
theorem test_decode_txdPush : decodeRequest 0b0101_00000000000000000000_00000001 = .txdPush 0x01 := by decide
theorem test_decode_frame : decodeRequest 0b0110_0000000000000000000000000000 = .frame := by decide
theorem test_decode_bind : decodeRequest 0b0111_0000000000000000000000000000 = .bind := by decide
theorem test_decode_query : decodeRequest 0b1000_0000000000000000000000000000 = .query := by decide
theorem test_decode_target_right :
    decodeRequest 0b1001_00000000000_1_1111111011100000 = .target .right 0xFEE0 := by decide
theorem test_decode_target_left :
    decodeRequest 0b1001_11111111111_0_0000000001000000 = .target .left 0x0040 := by decide
theorem test_decode_setp : decodeRequest 0b1010_00000000_0101_0000000100101100 = .setp 5 300 := by decide
theorem test_decode_set : decodeRequest 0b1011_0000000000000000000000000000 = .set := by decide
theorem test_decode_reservedC : decodeRequest 0b1100_0000000000000000000000000000 = .reservedC := by decide
theorem test_decode_reservedD : decodeRequest 0b1101_0000000000000000000000000000 = .reservedD := by decide
theorem test_decode_reservedE : decodeRequest 0b1110_0000000000000000000000000000 = .reservedE := by decide
theorem test_decode_reservedF : decodeRequest 0xF1234567 = .reservedF := by decide
theorem test_decode_wireBind : decodeItem (.frameOut [0xFE, 0xFE, 0x03, 0x00, 0x01, 0xFF]) = .ok .wireBind := by decide
theorem test_decode_wireQuery : decodeItem (.frameOut [0xFE, 0xFE, 0x03, 0x01, 0x02, 0x00]) = .ok .wireQuery := by decide
theorem test_decode_wireTelemetrySingle :
    decodeItem (.frameIn f1) = .ok (.wireTelemetrySingle (f1.extract 4 22) 0x0397) := by decide +kernel
theorem test_decode_wireTelemetryDual :
    decodeItem (.frameIn f2) = .ok (.wireTelemetryDual (f2.extract 4 32) 0x0BB4) := by decide +kernel
/-- The frame of 43_command_marshaller.md R294. -/
theorem test_decode_wireSet :
    decodeItem (.frameOut [0xFE, 0xFE, 0x11, 0x02, 0x01, 0x01, 0x01, 0x02, 0x04, 0x14, 0xEC, 0x03, 0x2C, 0x00, 0x01, 0x00,
      0xFF, 0x7F, 0x04, 0xC6]) =
    .ok (.wireSet [0x01, 0x01, 0x01, 0x02, 0x04, 0x14, 0xEC, 0x03, 0x2C, 0x00, 0x01, 0x00, 0xFF, 0x7F]) := by
  decide +kernel
theorem test_decode_wireTargetLeft :
    decodeItem (.frameOut [0xFE, 0xFE, 0x04, 0x05, 0x04, 0x02, 0x09]) = .ok (.wireTargetLeft 0x04) := by decide
theorem test_decode_wireTargetRight :
    decodeItem (.frameOut [0xFE, 0xFE, 0x04, 0x06, 0xEE, 0x02, 0xF4]) = .ok (.wireTargetRight 0xEE) := by decide

/-- The wire decoder rejects by name, one case for each name. -/
theorem test_decode_errors :
    decodeItem (.frameOut [0xFE, 0xFE, 0x02, 0x01, 0xFE]) = .error .tooShort ∧
    decodeItem (.frameIn [0xFE, 0xFD, 0x03, 0x01, 0x02, 0x00]) = .error .badSync ∧
    decodeItem (.frameIn [0xFE, 0xFE, 0x04, 0x01, 0x02, 0x00]) = .error .badLength ∧
    decodeItem (.frameIn [0xFE, 0xFE, 0x03, 0x05, 0x02, 0x00]) = .error (.badCommand 0x05) ∧
    decodeItem (.frameOut [0xFE, 0xFE, 0x03, 0x05, 0x02, 0x04]) = .error .badBody ∧
    decodeItem (.frameOut [0xFE, 0xFE, 0x03, 0x00, 0x03, 0xFE]) = .error .badChecksum := by decide

/-- 30_encoding.md R132: the assembler's numbers, and its refusal of 5.6. -/
theorem test_assemble : assembleNumeric 5625 3 = some 0x005A ∧ assembleNumeric (-18) 0 = some 0xFEE0 ∧
    assembleNumeric 56 1 = none := by decide
/-- 30_encoding.md R133 on L3-3's first line. -/
theorem test_setpFlags : (expandSetpFlags true true true 2 false true).map encode = [.request 0xA0000057] := by decide
/-- 30_encoding.md R133 on L3-5's staging of the QUERY data region. -/
theorem test_txFrame : (expandTxFrame [0x01]).map encode =
    [.request 0x40000000, .request 0x50000001, .request 0x60000000] := by decide

/-! ## The primitives (95_test_vectors.md V1 to V4) -/

/-- V1. -/
theorem test_checksums : ck16 (f2.take 32) = 0x0BB4 ∧ dbl 0x0BB4 = 0x1768 ∧
    ck16 ([0xFE, 0xFE, 0xFF] ++ List.replicate 253 0xFF) = 0xFEFE ∧ dbl 0xFEFE = 0xFDFC := by decide +kernel
/-- V2. -/
theorem test_extract : extract [0x03, 0x97] 0 .two .be .u = 0x0397 ∧ extract [0x03, 0x97] 0 .two .le .u = 0x9703 := by
  decide
/-- V3, the rows whose tie or clamp decides. -/
theorem test_numeric : [0x0C80, 0xF380, 0x005A, 0x0028, 0xFFD8, 0x0008, 0xFFF8, 0x0007, 0xFFF9, 0x07F8, 0xF7F8].map numericByte =
    [0x7F, 0x80, 0x06, 0x03, 0xFD, 0x01, 0xFF, 0x00, 0x00, 0x7F, 0x80] := by decide +kernel
/-- V4. -/
theorem test_compressor :
    [(24, 0), (24, 5), (0, 240), (255, 255), (23, 9), (23, 8), (22, 15), (23, 1), (23, 0), (22, 9), (12, 8)].map
      (fun p => compClass (voltDeciOf p.1 p.2)) =
    [.off, .off, .off, .off, .unknown, .on, .on, .on, .unknown, .unknown, .unknown] := by decide +kernel

/-! ## One step of each instruction -/

/-- V15: NOP after a reserved request. -/
theorem test_nop : (afterWord 0x00000000 (afterWord 0xC0000000 State.reset)).status.word = 0x0000 := by decide +kernel
/-- V15. -/
theorem test_reservedC : (afterWord 0xC0000000 State.reset).location 0x000 = 0x0200 := by decide +kernel
theorem test_reservedD : (afterWord 0xD0000000 State.reset).location 0x000 = 0x0200 := by decide +kernel
theorem test_reservedE : (afterWord 0xE0000000 State.reset).location 0x000 = 0x0200 := by decide +kernel
theorem test_reservedF : (afterWord 0xF1234567 State.reset).location 0x000 = 0x0200 := by decide +kernel
/-- V6. -/
theorem test_rxClr : (afterWord 0x10000000 (rxState f1)).location 0x001 = 0x0000 ∧
    (afterWord 0x10000000 (rxState f1)).location 0x400 = 0x0000 := by decide +kernel
/-- V6. -/
theorem test_rxPush : (afterWord 0x200000FE State.reset).location 0x001 = 0x0001 ∧
    (afterWord 0x200000FE State.reset).location 0x400 = 0x00FE := by decide +kernel
/-- V6: the 258th push and the 259th. -/
theorem test_rxPush_full :
    (afterWord 0x200000FE { State.reset with rxLen := 257 }).location 0x001 = 0x0102 ∧
    (afterWord 0x200000FE { State.reset with rxLen := 258 }).location 0x001 = 0x8102 := by decide +kernel
/-- V7 and L3-2: F1. -/
theorem test_decode_f1 : (afterWord 0x30000000 (rxState f1)).location 0x000 = 0x0003 ∧
    (afterWord 0x30000000 (rxState f1)).location 0x006 = 0x0645 ∧
    (afterWord 0x30000000 (rxState f1)).record.valueWords =
      [0x0004, 0x0014, 0xFFEC, 0x0002, 0, 0, 0, 0, 0, 0x0005, 0x0064, 0x000C, 0x0008, 0x0080, 0, 0, 0, 0, 0, 0, 0, 0] := by
  decide +kernel
/-- V7: the STATUS of each rejected buffer. -/
theorem test_decode_rejects :
    [[], [0xFE, 0xFE, 0x02, 0x01, 0xFE], f1.set 1 0xFD, [0xFE, 0xFE, 0x02, 0x01, 0x00, 0x00], f1 ++ [0x00], f1.take 23,
      f1With 0x03 0x98, [0xFE, 0xFE, 0x03, 0x00, 0x01, 0xFF], [0xFE, 0xFE, 0x03, 0x01, 0x02, 0x00], f1With 0x07 0x2E].map
      (fun B => (afterWord 0x30000000 (rxState B)).status.word) =
    [0x0005, 0x0005, 0x0009, 0x000D, 0x0011, 0x0011, 0x0015, 0x0019, 0x001D, 0x0023] := by decide +kernel
/-- 42_tx_framer.md R240's example. -/
theorem test_txdClr : (afterWord 0x40000000 { State.reset with txdLen := 15 }).txdLen = 0 := by decide +kernel
/-- 42_tx_framer.md R243's example. -/
theorem test_txdPush : (afterWord 0x50000001 State.reset).txdBytes = [0x01] := by decide +kernel
/-- V11: the 254th push. -/
theorem test_txdPush_full : (afterWord 0x500000AA { State.reset with txdLen := 253 }).location 0x002 = 0x80FD := by
  decide +kernel
/-- 42_tx_framer.md R245's example. -/
theorem test_frame : (afterWord 0x60000000 (txdState [0x01])).txBytes = [0xFE, 0xFE, 0x03, 0x01, 0x02, 0x00] ∧
    (afterWord 0x60000000 (txdState [0x01])).txCk = 0x0200 := by decide +kernel
/-- V11: an overflowed staging buffer. -/
theorem test_frame_overflow :
    (afterWord 0x60000000 { State.reset with txdLen := 253, txdOvf := true, txLen := 6, txCk := 0x01FF }).status.word = 0x00C0 ∧
    (afterWord 0x60000000 { State.reset with txdLen := 253, txdOvf := true, txLen := 6, txCk := 0x01FF }).txCk = 0x01FF := by
  decide +kernel
/-- V11. -/
theorem test_bind : (afterWord 0x70000000 State.reset).txBytes = [0xFE, 0xFE, 0x03, 0x00, 0x01, 0xFF] := by decide +kernel
theorem test_query : (afterWord 0x80000000 State.reset).txBytes = [0xFE, 0xFE, 0x03, 0x01, 0x02, 0x00] := by decide +kernel
/-- V12. -/
theorem test_target :
    (afterWord 0x9FFE0040 State.reset).txBytes = [0xFE, 0xFE, 0x04, 0x05, 0x04, 0x02, 0x09] ∧
    (afterWord 0x9001FEE0 State.reset).txBytes = [0xFE, 0xFE, 0x04, 0x06, 0xEE, 0x02, 0xF4] := by decide +kernel
/-- V13. -/
theorem test_setp : (afterWord 0xA000FFFF State.reset).param 0 = 0x007F ∧
    (afterWord 0xA00F8000 State.reset).location 0x02F = 0x8000 := by decide +kernel
/-- 43_command_marshaller.md R294, dual. -/
theorem test_set_dual : (afterWord 0xB0000000 (paramState (exampleParams 0x0057))).txBytes =
    [0xFE, 0xFE, 0x1C, 0x02, 0x01, 0x01, 0x01, 0x02, 0x04, 0x14, 0xEC, 0x03, 0x2C, 0x00, 0x01, 0x00, 0xFF, 0x7F, 0xEE,
     0x00, 0x00, 0x02, 0x80, 0x02, 0xFE, 0x00, 0x00, 0x00, 0x00, 0x07, 0x41] := by decide +kernel
/-- V14: the refusal of battery saver 3, and R294's single-zone checksum. -/
theorem test_set : (afterWord 0xB0000000 (paramState (exampleParams 0x0018))).status.word = 0x0140 ∧
    (afterWord 0xB0000000 (paramState (exampleParams 0x0017))).txCk = 0x04C6 := by decide +kernel
theorem test_wireBind : (after (.frameOut [0xFE, 0xFE, 0x03, 0x00, 0x01, 0xFF]) State.reset).txCk = 0x01FF := by
  decide +kernel
theorem test_wireQuery : (after (.frameOut [0xFE, 0xFE, 0x03, 0x01, 0x02, 0x00]) State.reset).txCk = 0x0200 := by
  decide +kernel
/-- L3-4: the doubled trailer of F1. -/
theorem test_wireTelemetrySingle : (after (.frameIn (f1With 0x07 0x2E)) State.reset).location 0x000 = 0x0023 ∧
    (after (.frameIn (f1With 0x07 0x2E)) State.reset).location 0x006 = 0x0645 := by decide +kernel
/-- V7: F2. -/
theorem test_wireTelemetryDual : (after (.frameIn f2) State.reset).location 0x006 = 0x089F ∧
    (after (.frameIn f2) State.reset).record.valueWords =
      [0xFFFD, 0x000A, 0xFFEC, 0x0002, 0x001E, 0x0001, 0x0002, 0x0003, 0x0004, 0xFFFE, 0x0000, 0x0018, 0x0005, 0x00F5, 0xFFEE,
       0x0003, 0xFFFF, 0xFFFE, 0xFFFD, 0xFFFC, 0xFFF0, 0x0003] := by decide +kernel
theorem test_wireSet :
    (after (.frameOut [0xFE, 0xFE, 0x11, 0x02, 0x01, 0x01, 0x01, 0x02, 0x04, 0x14, 0xEC, 0x03, 0x2C, 0x00, 0x01, 0x00,
      0xFF, 0x7F, 0x04, 0xC6]) State.reset).location 0x005 = 0x04C6 := by decide +kernel
theorem test_wireTargetLeft : (after (.frameOut [0xFE, 0xFE, 0x04, 0x05, 0x04, 0x02, 0x09]) State.reset).txCk = 0x0209 := by
  decide +kernel
theorem test_wireTargetRight : (after (.frameOut [0xFE, 0xFE, 0x04, 0x06, 0xEE, 0x02, 0xF4]) State.reset).txCk = 0x02F4 := by
  decide +kernel

/-- The host's two definitions on one request row and one wire row. -/
theorem test_tableWord : decodeTableWord 32 0xA005012C = some (.setp 5 300) ∧
    decodeTableWord 8 0x06 = some (.wireTargetRight 0) := by decide +kernel
theorem test_withFetchWord : step (State.reset.withFetchWord 32 0xC0000000) =
    exec .reservedC { State.reset with inbox := [.awaitReady] } := rfl

/-! ## The hypotheses of the statements are met -/

/-- A state with no record, the status after reset and no frame in TXBUF meets the invariant when its buffers and its
parameter file do. -/
theorem inv_fresh {s : State} (hr : s.record = Record.reset) (hs : s.status = Status.reset) (ht : s.txLen = 0)
    (hw : (s.rxbuf.wf && s.txd.wf && s.txbuf.wf && Memory.within 258 s.rxbuf && Memory.within 253 s.txd &&
      Memory.within 258 s.txbuf && decide (s.rxLen.toNat ≤ 258) && decide (s.txdLen.toNat ≤ 253) &&
      (!s.rxOvf || decide (s.rxLen.toNat = 258)) && (!s.txdOvf || decide (s.txdLen.toNat = 253)) &&
      s.param 0 &&& 0xFF80 == 0) = true) : s.Inv := by
  simp only [Bool.and_eq_true, Bool.or_eq_true, decide_eq_true_eq, beq_iff_eq, Bool.not_eq_true'] at hw
  obtain ⟨⟨⟨⟨⟨⟨⟨⟨⟨⟨h1, h2⟩, h3⟩, h4⟩, h5⟩, h6⟩, h7⟩, h8⟩, h9⟩, h10⟩, h11⟩ := hw
  exact
    { rxWf := h1, txdWf := h2, txWf := h3, rxWithin := h4, txdWithin := h5, txWithin := h6, rxLen := h7, txdLen := h8,
      txLen := by rw [ht]; decide
      rxOvf := fun h => h9.resolve_left (by simp [h])
      txdOvf := fun h => h10.resolve_left (by simp [h])
      flagsReserved := h11
      status := by rw [hs]; exact ⟨by decide, by decide, by decide, by decide⟩
      recordReset := fun _ => hr
      recordWritten := by rw [hr]; intro h; cases h
      recordDone := by rw [hr]; intro h; cases h
      okValid := by rw [hs]; intro h; cases h
      errEmpty := by rw [hs]; intro h; cases h
      txWhole := .inl ht }

theorem rxState_f1_inv : (rxState f1).Inv := inv_fresh rfl rfl rfl (by decide +kernel)

theorem f1_shape : (rxState f1).ShapeOk :=
  ⟨rfl, by decide +kernel, by decide +kernel, by decide +kernel, by decide +kernel, by decide +kernel⟩
theorem f2_shape : (rxState f2).ShapeOk :=
  ⟨rfl, by decide +kernel, by decide +kernel, by decide +kernel, by decide +kernel, by decide +kernel⟩

/-- A frame with this CMD, n zero BODY bytes and the plain trailer. -/
def zeroFrame (c : Byte) (n : Nat) : List Byte := (frameOf (c :: List.replicate n 0)).1

theorem witness_StepKeepsInv : ∃ s t : State, s.Inv ∧ step s = .next t ∧ t.status.decOk = true :=
  ⟨(rxState f1).placeItem (.request 0x30000000), _, inv_fresh rfl rfl rfl (by decide +kernel), rfl, by decide +kernel⟩

theorem witness_DecodeEncode : (Instr.wireTelemetrySingle (List.replicate 252 0xFF) 0x1234).wf = true ∧
    (Instr.wireTelemetryDual [] 0).wf = true ∧ (Instr.wireSet [1, 1, 1, 2, 0xFF, 0, 0, 0, 0, 1, 0, 0, 0, 0]).wf = true ∧
    (Instr.wireSet (List.replicate 25 0)).wf = true := by decide +kernel

theorem witness_FrameDecodeUnique : decodeIn f1 = .ok (.wireTelemetrySingle (f1.extract 4 22) 0x0397) ∧
    decodeOut [0xFE, 0xFE, 0x04, 0x05, 0x04, 0x02, 0x09] = .ok (.wireTargetLeft 0x04) := by decide +kernel

/-- V12's ignored bits. -/
theorem witness_IgnoredBits : (0x90000040 : ReqWord) &&& operandMask 0x90000040 = 0x9FFE0040 &&& operandMask 0x9FFE0040 ∧
    (0xC0000000 : ReqWord) &&& operandMask 0xC0000000 = 0xC1234567 &&& operandMask 0xC1234567 ∧
    (0x200000FE : ReqWord) &&& operandMask 0x200000FE = 0x2FFFFFFE &&& operandMask 0x2FFFFFFE ∧
    (0xA005012C : ReqWord) &&& operandMask 0xA005012C = 0xAFF5012C &&& operandMask 0xAFF5012C := by decide

theorem witness_StepRunsDecoded : ∃ (s : State) (it : Item), s.inFlight = some it ∧ decodeItem it = .ok .bind ∧
    (∀ rest, s.inbox ≠ .reset :: rest) ∧ (∀ a rest, s.inbox ≠ .read a :: rest) :=
  ⟨State.reset.placeItem (.request 0x70000000), .request 0x70000000, rfl, by decide, by simp [State.placeItem],
   by simp [State.placeItem]⟩

theorem witness_OfferWaitsWhileBusy : ∃ (s : State), s.inFlight = some (.request 0x70000000) ∧
    s.inbox = .offer (.request 0x80000000) :: [] :=
  ⟨{ State.reset with inFlight := some (.request 0x70000000), inbox := [.offer (.request 0x80000000)] }, rfl, rfl⟩

theorem witness_RstTotal : ∃ s : State, s.inbox = .reset :: [] ∧ s.inFlight = some (.request 0x30000000) ∧ s.txCk = 1 :=
  ⟨{ State.reset with inFlight := some (.request 0x30000000), inbox := [.reset], txCk := 1 }, rfl, rfl, rfl⟩

theorem witness_ReadObserves : ∃ s : State, s.inbox = .read 0x400 :: [] ∧ s.busy = false ∧ s.location 0x400 = 0x00FE :=
  ⟨{ rxState f1 with inbox := [.read 0x400] }, rfl, rfl, by decide +kernel⟩

theorem witness_RequestCompletes : ∃ s : State, s.inFlight = some (.request 0x30000000) ∧
    s.inbox = ([0x000, 0x400] : List (BitVec 12)).map .read ++ .awaitReady :: [] :=
  ⟨{ rxState f1 with inFlight := some (.request 0x30000000), inbox := [.read 0x000, .read 0x400, .awaitReady] }, rfl, rfl⟩

/-- The op codes named in the hypotheses of the per-request statements, each on a word with its ignored bits set. -/
theorem witness_opcodes : (0x0FFFFFFF : ReqWord) >>> 28 = 0x0 ∧ (0x1FFFFFFF : ReqWord) >>> 28 = 0x1 ∧
    (0x2FFFFF01 : ReqWord) >>> 28 = 0x2 ∧ (0x4FFFFFFF : ReqWord) >>> 28 = 0x4 ∧ (0x5FFFFF01 : ReqWord) >>> 28 = 0x5 ∧
    (0x6FFFFFFF : ReqWord) >>> 28 = 0x6 ∧ (0x7FFFFFFF : ReqWord) >>> 28 = 0x7 ∧ (0x8FFFFFFF : ReqWord) >>> 28 = 0x8 ∧
    (0xBFFFFFFF : ReqWord) >>> 28 = 0xB ∧ (0xC1234567 : ReqWord) >>> 28 = 0xC ∧ (0xD1234567 : ReqWord) >>> 28 = 0xD ∧
    (0xE1234567 : ReqWord) >>> 28 = 0xE ∧ (0xF1234567 : ReqWord) >>> 28 = 0xF := by decide

theorem witness_NopResult : (0x0FFFFFFF : ReqWord) >>> 28 = 0x0 := by decide
theorem witness_ReservedResult : Instr.reservedE ∈ [Instr.reservedC, .reservedD, .reservedE, .reservedF] := by decide
theorem witness_RxClrResult : (0x1FFFFFFF : ReqWord) >>> 28 = 0x1 := by decide
theorem witness_TxdClrResult : (0x4FFFFFFF : ReqWord) >>> 28 = 0x4 := by decide

theorem witness_RxPushResult_accepted : ∃ s : State, (0x2FFFFF01 : ReqWord) >>> 28 = 0x2 ∧ s.Inv ∧ s.rxLen.toNat = 257 :=
  ⟨{ State.reset with rxLen := 257 }, by decide, inv_fresh rfl rfl rfl (by decide +kernel), rfl⟩
theorem witness_RxPushResult_dropped : ∃ s : State, (0x2FFFFF01 : ReqWord) >>> 28 = 0x2 ∧ s.Inv ∧ s.rxLen.toNat = 258 :=
  ⟨{ State.reset with rxLen := 258 }, by decide, inv_fresh rfl rfl rfl (by decide +kernel), rfl⟩

theorem witness_RxLoadResult : (rxState f1).rxbuf.wf = true ∧ 258 < (List.replicate 259 (0xFF : Byte)).length := by
  decide +kernel

theorem witness_DecodeShort : (rxState [0xFE, 0xFE, 0x02, 0x01, 0xFE]).rxOvf = false ∧
    (rxState [0xFE, 0xFE, 0x02, 0x01, 0xFE]).rxLen.toNat = 5 := by decide +kernel

theorem witness_DecodeShort_overflow : ({ State.reset with rxLen := 258, rxOvf := true } : State).rxOvf = true := rfl

theorem witness_DecodeSync : (rxState (f1.set 1 0xFD)).Inv ∧ 6 ≤ (rxState (f1.set 1 0xFD)).rxLen.toNat ∧
    (rxState (f1.set 1 0xFD)).rxbuf.read 1 ≠ 0xFE :=
  ⟨inv_fresh rfl rfl rfl (by decide +kernel), by decide +kernel, by decide +kernel⟩
theorem witness_DecodeSync_overflow : ∃ s : State, s.Inv ∧ s.rxOvf = true ∧ s.rxbuf.read 0 ≠ 0xFE :=
  ⟨{ State.reset with rxLen := 258, rxOvf := true }, inv_fresh rfl rfl rfl (by decide +kernel), rfl, by decide⟩

theorem witness_DecodeLength_field : ∃ s : State, s.Inv ∧ s.rxLen.toNat = 6 ∧ s.rxbuf.read 0 = 0xFE ∧ s.rxbuf.read 1 = 0xFE ∧
    (s.rxbuf.read 2).toNat = 2 :=
  ⟨rxState [0xFE, 0xFE, 0x02, 0x01, 0x00, 0x00], inv_fresh rfl rfl rfl (by decide +kernel), by decide +kernel, by decide +kernel,
   by decide +kernel, by decide +kernel⟩
theorem witness_DecodeLength_mismatch : ∃ s : State, s.Inv ∧ 6 ≤ s.rxLen.toNat ∧ s.rxbuf.read 0 = 0xFE ∧
    s.rxbuf.read 1 = 0xFE ∧ (s.rxbuf.read 2).toNat = 3 ∧ 3 + (s.rxbuf.read 2).toNat ≠ s.rxLen.toNat :=
  ⟨rxState [0xFE, 0xFE, 0x03, 0x01, 0x00, 0x00, 0x00], inv_fresh rfl rfl rfl (by decide +kernel), by decide +kernel,
   by decide +kernel, by decide +kernel, by decide +kernel, by decide +kernel⟩
theorem witness_DecodeLength_overflow : ∃ s : State, s.Inv ∧ s.rxOvf = true ∧ s.rxbuf.read 0 = 0xFE ∧
    s.rxbuf.read 1 = 0xFE ∧ (s.rxbuf.read 2).toNat = 255 :=
  ⟨{ State.reset with rxbuf := [(0, 0xFE), (1, 0xFE), (2, 0xFF)], rxLen := 258, rxOvf := true },
   inv_fresh rfl rfl rfl (by decide +kernel), rfl, by decide, by decide, by decide⟩

theorem witness_DecodeChecksum : (rxState (f1With 0x03 0x98)).ShapeOk ∧ ¬ (rxState (f1With 0x03 0x98)).ChecksumOk :=
  ⟨⟨rfl, by decide +kernel, by decide +kernel, by decide +kernel, by decide +kernel, by decide +kernel⟩,
   not_or.2 ⟨by decide +kernel, by decide +kernel⟩⟩

theorem witness_DecodeCommand : (rxState [0xFE, 0xFE, 0x03, 0x00, 0x01, 0xFF]).ShapeOk ∧
    (rxState [0xFE, 0xFE, 0x03, 0x00, 0x01, 0xFF]).ChecksumOk ∧ ¬ (rxState [0xFE, 0xFE, 0x03, 0x00, 0x01, 0xFF]).CommandOk :=
  ⟨⟨rfl, by decide +kernel, by decide +kernel, by decide +kernel, by decide +kernel, by decide +kernel⟩,
   .inl (by decide +kernel), not_or.2 ⟨by decide +kernel, by decide +kernel⟩⟩

/-- d = 17, the largest that is too short. -/
theorem witness_DecodeDataShort : (rxState (zeroFrame 0x01 17)).ShapeOk ∧ (rxState (zeroFrame 0x01 17)).ChecksumOk ∧
    (rxState (zeroFrame 0x01 17)).CommandOk ∧ ((rxState (zeroFrame 0x01 17)).rxbuf.read 2).toNat - 3 = 17 :=
  ⟨⟨rfl, by decide +kernel, by decide +kernel, by decide +kernel, by decide +kernel, by decide +kernel⟩,
   .inl (by decide +kernel), .inl (by decide +kernel), by decide +kernel⟩

/-- d = 18, the smallest that is valid, with the plain trailer. -/
theorem witness_DecodeValid : (rxState f1).ShapeOk ∧ (rxState f1).ChecksumOk ∧ (rxState f1).CommandOk ∧
    ((rxState f1).rxbuf.read 2).toNat - 3 = 18 :=
  ⟨f1_shape, .inl (by decide +kernel), .inl (by decide +kernel), by decide +kernel⟩
/-- The doubled trailer. -/
theorem witness_DecodeValid_doubled : (rxState (f1With 0x07 0x2E)).ShapeOk ∧ (rxState (f1With 0x07 0x2E)).ChecksumOk ∧
    (rxState (f1With 0x07 0x2E)).CommandOk ∧ 18 ≤ ((rxState (f1With 0x07 0x2E)).rxbuf.read 2).toNat - 3 :=
  ⟨⟨rfl, by decide +kernel, by decide +kernel, by decide +kernel, by decide +kernel, by decide +kernel⟩,
   .inr (by decide +kernel), .inl (by decide +kernel), by decide +kernel⟩

/-- d = 28, the smallest with a right zone. -/
theorem witness_DecodeRightZone_present : (rxState f2).ShapeOk ∧ (rxState f2).ChecksumOk ∧ (rxState f2).CommandOk ∧
    ((rxState f2).rxbuf.read 2).toNat - 3 = 28 :=
  ⟨f2_shape, .inl (by decide +kernel), .inr (by decide +kernel), by decide +kernel⟩
/-- d = 27, the largest without, and CMD 0x02. -/
theorem witness_DecodeRightZone_absent : (rxState (zeroFrame 0x02 27)).ShapeOk ∧ (rxState (zeroFrame 0x02 27)).ChecksumOk ∧
    (rxState (zeroFrame 0x02 27)).CommandOk ∧ ((rxState (zeroFrame 0x02 27)).rxbuf.read 2).toNat - 3 = 27 :=
  ⟨⟨rfl, by decide +kernel, by decide +kernel, by decide +kernel, by decide +kernel, by decide +kernel⟩,
   .inl (by decide +kernel), .inr (by decide +kernel), by decide +kernel⟩

theorem witness_DecodeRepeats : ∃ t u v : State, exec .decode (rxState f1) = .next t ∧
    (∀ i ∈ [Instr.txdPush 1, .frame, .setp 0 1], i.writesRx = false) ∧
    execAll [.txdPush 1, .frame, .setp 0 1] t = .next u ∧ exec .decode u = .next v :=
  ⟨_, _, _, rfl, by decide, rfl, rfl⟩

theorem witness_ResultsDependOnInputs_decode : ∃ s s' t t' : State, s.rxBytes = s'.rxBytes ∧ s.rxOvf = s'.rxOvf ∧
    exec .decode s = .next t ∧ exec .decode s' = .next t' ∧ t.status.decOk = true ∧ s.txCk ≠ s'.txCk :=
  ⟨rxState f1, { rxState f1 with txCk := 1 }, _, _, rfl, rfl, rfl, rfl, by decide +kernel, by decide +kernel⟩
theorem witness_ResultsDependOnInputs_tx : ∃ s s' t t' : State, Instr.frame.isTx = true ∧ s.txbuf.wf = true ∧
    s'.txbuf.wf = true ∧ s.txdBytes = s'.txdBytes ∧ s.txdOvf = s'.txdOvf ∧ (∀ k, s.param k = s'.param k) ∧
    exec .frame s = .next t ∧ exec .frame s' = .next t' ∧ t.status.txErr = false ∧ s.txLen ≠ s'.txLen :=
  ⟨txdState [0x01], { txdState [0x01] with txLen := 6 }, _, _, rfl, rfl, rfl, rfl, rfl, fun _ => rfl, rfl, rfl, rfl,
   by decide⟩

theorem witness_DoubledTrailerSameRecord : State.reset.rxbuf.wf = true ∧ 18 ≤ (List.replicate 18 (0 : Byte)).length ∧
    (List.replicate 252 (0 : Byte)).length ≤ 252 := by decide +kernel

theorem witness_InboundFrameResult : State.reset.rxbuf.wf = true ∧ (List.replicate 252 (0 : Byte)).length ≤ 252 ∧
    ((0x02 : Byte) = 0x02 ∧
      Instr.wireTelemetryDual (List.replicate 252 0) 0 = .wireTelemetryDual (List.replicate 252 0) 0) := by decide +kernel
/-- The three clauses about the trailer and the BODY's length: a wrong trailer, 17 bytes, 18 bytes. -/
theorem witness_InboundFrameResult_clauses :
    (0 : Half) ≠ (frameOf (0x01 :: List.replicate 18 0)).2 ∧ (0 : Half) ≠ dbl (frameOf (0x01 :: List.replicate 18 0)).2 ∧
    (List.replicate 17 (0 : Byte)).length < 18 ∧ 18 ≤ (List.replicate 18 (0 : Byte)).length := by decide +kernel

theorem witness_FrameRoundTrip : State.reset.rxbuf.wf = true ∧ (List.replicate 252 (0 : Byte)).length ≤ 252 := by
  decide +kernel

/-- V10. -/
theorem witness_StaleRxNeverDecodes : ∃ t u : State, (rxState f1).Inv ∧ exec .decode (rxState f1) = .next t ∧
    t.status.decOk = true ∧ f1 ≠ [] ∧ execAll (f1.map Instr.rxPush ++ [.decode]) t = .next u ∧ u.status.word = 0x0011 :=
  ⟨_, _, rxState_f1_inv, rfl, by decide +kernel, by decide, rfl, by decide +kernel⟩

theorem witness_ChecksumIsSum : ([0x01, 0x02] : List Byte).Perm [0x02, 0x01] := List.Perm.swap _ _ _
/-- The largest data region, and the bound met by 253 bytes 0xFF (V1). -/
theorem witness_ChecksumNeverWraps : (List.replicate 253 (0xFF : Byte)).length ≤ 253 ∧
    byteSum (frameHead (List.replicate 253 0xFF)) = 0xFEFE := by decide +kernel
theorem witness_DoublingLaws : (0x072F : Half).getLsbD 0 = true ∧ dbl 0 = 0 := by decide
theorem witness_ExtractorSettings : 1 < ([0x03, 0x97] : List Byte).length ∧
    0 + 1 < ([0x03, 0x97] : List Byte).length := by decide
theorem witness_SignedByteReading : (-128 : Int) ≤ -128 ∧ (-128 : Int) ≤ 127 ∧ (127 : Int) ≤ 127 := by decide
/-- An exact half: 2.5 with one fraction bit. -/
theorem witness_RoundToNearest : 2 * (roundInt .awayFromZero 1 5 * 2 ^ 1 - 5).natAbs = 2 ^ 1 := by decide
theorem witness_ClampLaws : (0xF380 : Half).toInt ≤ (0x0C80 : Half).toInt ∧
    (0x07F0 : Half).toInt = clamp8With .awayFromZero 4 0x0C80 * 2 ^ 4 := by decide
theorem witness_TieRulesAgreeOffHalves : 2 * ((7 : Int) % 2 ^ 4) ≠ 2 ^ 4 := by decide
theorem witness_FramerLayout : (List.replicate 253 (0xFF : Byte)).length ≤ 253 := by decide +kernel

theorem witness_TxdPushResult_accepted : ∃ s : State, (0x5FFFFF01 : ReqWord) >>> 28 = 0x5 ∧ s.Inv ∧ s.txdLen.toNat = 252 :=
  ⟨{ State.reset with txdLen := 252 }, by decide, inv_fresh rfl rfl rfl (by decide +kernel), rfl⟩
theorem witness_TxdPushResult_dropped : ∃ s : State, (0x5FFFFF01 : ReqWord) >>> 28 = 0x5 ∧ s.Inv ∧ s.txdLen.toNat = 253 :=
  ⟨{ State.reset with txdLen := 253 }, by decide, inv_fresh rfl rfl rfl (by decide +kernel), rfl⟩

theorem witness_FrameResult : (0x6FFFFFFF : ReqWord) >>> 28 = 0x6 ∧ (txdState [0x01]).Inv ∧
    (txdState [0x01]).txdOvf = false := ⟨by decide, inv_fresh rfl rfl rfl (by decide +kernel), rfl⟩
theorem witness_FrameResult_empty : (txdState []).Inv ∧ (txdState []).txdOvf = false ∧ (txdState []).txdLen = 0 :=
  ⟨inv_fresh rfl rfl rfl (by decide +kernel), rfl, rfl⟩
theorem witness_FrameResult_overflow : ∃ s : State, s.Inv ∧ s.txdOvf = true :=
  ⟨{ State.reset with txdLen := 253, txdOvf := true }, inv_fresh rfl rfl rfl (by decide +kernel), rfl⟩
theorem witness_BindQueryResult : State.reset.txbuf.wf = true ∧ (0x7FFFFFFF : ReqWord) >>> 28 = 0x7 ∧
    (0x8FFFFFFF : ReqWord) >>> 28 = 0x8 := by decide

theorem witness_TargetResult : (0x9001FEE0 : ReqWord) >>> 28 = 0x9 ∧ State.reset.txbuf.wf = true ∧
    (0x06 : Byte) = (if (0x9001FEE0 : ReqWord).getLsbD 16 then 0x06 else 0x05) ∧
    (0x05 : Byte) = (if (0x9FFE0040 : ReqWord).getLsbD 16 then 0x06 else 0x05) := by decide
theorem witness_SetpResult : (0xA000FFFF : ReqWord) >>> 28 = 0xA ∧ (0xA000FFFF : ReqWord).extractLsb' 16 4 = 0 ∧
    (0xA00F8000 : ReqWord).extractLsb' 16 4 ≠ 0 := by decide

/-- The flags and clamped bytes that SetResult's hypotheses define exist in every state. -/
theorem witness_SetResult (s : State) : ∃ (flag : Nat → Byte) (c : BitVec 4 → Byte) (single dual : List Byte),
    (0xBFFFFFFF : ReqWord) >>> 28 = 0xB ∧ (∀ k, flag k = if (s.param 0).getLsbD k then 1 else 0) ∧
    (∀ i, c i = enc8 (clamp8 (s.param i))) ∧
    single = [0x02, flag 0, flag 1, flag 2, flag 3 + 2 * flag 4, c 1, c 2, c 3, c 4, (s.param 5).setWidth 8, flag 5,
      c 6, c 7, c 8, c 9] ∧
    dual = single ++ [c 10, 0, 0, c 11, c 12, c 13, c 14, c 15, 0, 0, 0] :=
  ⟨fun k => if (s.param 0).getLsbD k then 1 else 0, fun i => enc8 (clamp8 (s.param i)), _, _, by decide, fun _ => rfl,
   fun _ => rfl, rfl, rfl⟩
/-- SetResult's three clauses: refused, single zone, dual zone. -/
theorem witness_SetResult_clauses : State.reset.txbuf.wf = true ∧
    ((paramState (exampleParams 0x0018)).param 0).extractLsb' 3 2 = 3 ∧
    ((paramState (exampleParams 0x0017)).param 0).extractLsb' 3 2 ≠ 3 ∧
    ((paramState (exampleParams 0x0017)).param 0).getLsbD 6 = false ∧
    ((paramState (exampleParams 0x0057)).param 0).extractLsb' 3 2 ≠ 3 ∧
    ((paramState (exampleParams 0x0057)).param 0).getLsbD 6 = true := by decide +kernel
theorem witness_RequestsEmitTheirWireFrames : (State.reset.param 0).extractLsb' 3 2 ≠ 3 := by decide +kernel
/-- A staged target frame. -/
theorem witness_RequestsEmitTheirWireFrames_frame : (txdState [0x05, 0x04]).txdOvf = false ∧
    decodeItem (.frameOut (frameOf (txdState [0x05, 0x04]).txdBytes).1) = .ok (.wireTargetLeft 0x04) := by decide +kernel
theorem witness_OutboundFrameResult : State.reset.txbuf.wf = true ∧ (Instr.wireSet (List.replicate 14 0)).wf = true ∧
    (Instr.wireSet (List.replicate 25 0)).wf = true := by decide

theorem witness_StatusDiscipline : ∃ t u : State, exec (decodeRequest 0xC0000000) State.reset = .next t ∧
    t.status.badOp = true ∧ exec (decodeRequest 0x70000000) t = .next u ∧ u.status.badOp = false :=
  ⟨_, _, rfl, rfl, rfl, rfl⟩
theorem witness_WritersOfState : ∃ t : State, exec .decode (rxState f1) = .next t ∧ t.record ≠ (rxState f1).record ∧
    Instr.decode.isDecode = true ∧ Instr.decode.writesRx = false :=
  ⟨_, rfl, by decide +kernel, by decide, by decide⟩
theorem witness_WritersOfState_rejected : ∃ t : State, exec .decode State.reset = .next t ∧ Instr.decode.isDecode = true ∧
    t.status.decOk = false := ⟨_, rfl, by decide, by decide +kernel⟩

/-- Two states that differ in a stale byte alone. -/
theorem witness_StaleBytesUnobservable : ∃ s t : State, s.Inv ∧ t.Inv ∧ SameShown s t ∧ s ≠ t :=
  ⟨{ State.reset with rxbuf := [(0, 5)] }, State.reset, inv_fresh rfl rfl rfl (by decide +kernel),
   inv_fresh rfl rfl rfl (by decide +kernel),
   ⟨rfl, rfl, fun k h => absurd h (Nat.not_lt_zero k), rfl, rfl, fun _ _ => rfl, rfl, fun _ _ => rfl, rfl, rfl, rfl, rfl, rfl,
    rfl, rfl, rfl, rfl⟩, by decide +kernel⟩
theorem witness_WindowsReadBytesOrZero : (0x1FF : Nat) < 0x200 ∧ (0x030 : Nat) ≤ (0x3FF : BitVec 12).toNat ∧
    (0x3FF : BitVec 12).toNat < 0x400 := by decide

/-- Any received bytes can be in flight; the next theorem gives some for each error of the inbound decoder. -/
theorem witness_UnknownFrameRejected (bytes : List Byte) : ∃ s : State, s.rxbuf.wf = true ∧
    s.inFlight = some (.frameIn bytes) ∧ (∀ rest, s.inbox ≠ .reset :: rest) ∧ (∀ a rest, s.inbox ≠ .read a :: rest) :=
  ⟨State.reset.placeItem (.frameIn bytes), rfl, rfl, by simp [State.placeItem], by simp [State.placeItem]⟩
theorem witness_UnknownFrameRejected_errors :
    decodeItem (.frameIn [0x00, 0x00, 0x02, 0x01, 0xFE]) = .error .tooShort ∧
    decodeItem (.frameIn (f1.set 1 0xFD)) = .error .badSync ∧
    decodeItem (.frameIn [0xFE, 0xFE, 0x02, 0x01, 0x00, 0x00]) = .error .badLength ∧
    decodeItem (.frameIn ([0xFE, 0xFE] ++ List.replicate 257 0xFF)) = .error .badLength ∧
    decodeItem (.frameIn [0xFE, 0xFE, 0x03, 0x00, 0x01, 0xFF]) = .error (.badCommand 0x00) := by decide +kernel
/-- V7: the STATUS one step leaves for the first and the last of them. -/
theorem test_unknownFrame : (after (.frameIn [0x00, 0x00, 0x02, 0x01, 0xFE]) State.reset).status.word = 0x0005 ∧
    (after (.frameIn [0xFE, 0xFE, 0x03, 0x00, 0x01, 0xFF]) State.reset).status.word = 0x0019 := by decide +kernel

end Sys2Proof.Tests
end

/-! ## The read port: the location at an address, range by range (10_state.md R49) -/

namespace Sys2Proof.Machine

theorem State.location_of_rxWindow (s : State) {a : BitVec 12} (h : 0x400 ≤ a.toNat) (h' : a.toNat < 0x600) :
    s.location a = windowWord s.rxbuf s.rxLen.toNat (a.toNat - 0x400) := by
  have h₁ : ¬ a.toNat < 0x020 := by omega
  have h₂ : ¬ a.toNat < 0x030 := by omega
  have h₃ : ¬ a.toNat < 0x400 := by omega
  simp only [State.location, h₁, h₂, h₃, h', if_true, if_false]

theorem State.location_of_txdWindow (s : State) {a : BitVec 12} (h : 0x600 ≤ a.toNat) (h' : a.toNat < 0x800) :
    s.location a = windowWord s.txd s.txdLen.toNat (a.toNat - 0x600) := by
  have h₁ : ¬ a.toNat < 0x020 := by omega
  have h₂ : ¬ a.toNat < 0x030 := by omega
  have h₃ : ¬ a.toNat < 0x400 := by omega
  have h₄ : ¬ a.toNat < 0x600 := by omega
  simp only [State.location, h₁, h₂, h₃, h₄, h', if_true, if_false]

theorem State.location_of_txWindow (s : State) {a : BitVec 12} (h : 0x800 ≤ a.toNat) (h' : a.toNat < 0xA00) :
    s.location a = windowWord s.txbuf s.txLen.toNat (a.toNat - 0x800) := by
  have h₁ : ¬ a.toNat < 0x020 := by omega
  have h₂ : ¬ a.toNat < 0x030 := by omega
  have h₃ : ¬ a.toNat < 0x400 := by omega
  have h₄ : ¬ a.toNat < 0x600 := by omega
  have h₅ : ¬ a.toNat < 0x800 := by omega
  simp only [State.location, h₁, h₂, h₃, h₄, h₅, h', if_true, if_false]

/-- At or above the fill count a window reads 0 (20_memory.md R89). -/
theorem windowWord_of_le (m : Memory) {len k : Nat} (h : len ≤ k) : windowWord m len k = 0 := by
  simp [windowWord, Nat.not_lt.mpr h]

/-- With the three fill counts 0 every location of the buffer windows reads 0. -/
theorem State.location_of_emptyBuffers {s : State} (hrx : s.rxLen = 0) (htxd : s.txdLen = 0) (htx : s.txLen = 0)
    {a : BitVec 12} (h : 0x400 ≤ a.toNat) (h' : a.toNat < 0xA00) : s.location a = 0 := by
  by_cases hRx : a.toNat < 0x600
  · rw [s.location_of_rxWindow h hRx, hrx]
    exact windowWord_of_le _ (Nat.zero_le _)
  by_cases hTxd : a.toNat < 0x800
  · rw [s.location_of_txdWindow (by omega) hTxd, htxd]
    exact windowWord_of_le _ (Nat.zero_le _)
  · rw [s.location_of_txWindow (by omega) h', htx]
    exact windowWord_of_le _ (Nat.zero_le _)

/-! ## The machine after reset -/

theorem State.reset_param (i : BitVec 4) : State.reset.param i = 0 :=
  Vector.getElem_replicate i.isLt

/-- Settles O1: the registers by evaluation, the parameter file and the windows by their read laws. -/
theorem resetValues : Obligations.ResetValues :=
  ⟨rfl, rfl, rfl, rfl, rfl, rfl, State.reset_param, rfl, rfl, rfl, rfl, rfl, rfl,
    fun _ h h' => State.location_of_emptyBuffers rfl rfl rfl h h'⟩

theorem Status.reset_inv : Status.reset.Inv where
  okDone := nofun
  reason := by decide
  dblOk := nofun
  txCause := by decide

/-- Settles O3: the buffers are empty, P0 is 0, no record is valid and TXBUF holds no frame. -/
theorem resetInv : Obligations.ResetInv where
  rxWf := rfl
  txdWf := rfl
  txWf := rfl
  rxWithin := rfl
  txdWithin := rfl
  txWithin := rfl
  rxLen := Nat.zero_le _
  txdLen := Nat.zero_le _
  txLen := Nat.zero_le _
  rxOvf := nofun
  txdOvf := nofun
  flagsReserved := by rw [State.reset_param]; rfl
  status := Status.reset_inv
  recordReset _ := rfl
  recordWritten := nofun
  recordDone := nofun
  okValid := nofun
  errEmpty := nofun
  txWhole := .inl rfl

/-! ## The step with an item in flight -/

/-- An item that decodes completes as exec of its instruction, with BUSY back to 0. -/
theorem complete_of_decoded {it : Item} {i : Instr} (hd : decodeItem it = .ok i) (s : State) :
    complete it s = exec i s.ready := by
  simp only [complete, hd]

/-- Settles O10. -/
theorem stepRunsDecoded : Obligations.StepRunsDecoded := by
  intro s it i hf hd hReset hRead
  calc step s = complete it s := step_inFlight hf hReset hRead
    _ = exec i s.ready := complete_of_decoded hd s

end Sys2Proof.Machine

/-! ## The status words: fields of a 16-bit word by the digits of a number -/

namespace Sys2Proof.Machine

theorem bit_lt_two (b : Bool) : bit b < 2 := by cases b <;> decide

theorem decide_bit_eq_one (b : Bool) : decide (bit b = 1) = b := by cases b <;> rfl

theorem DecReason.code_lt (r : DecReason) : r.code < 8 := by cases r <;> decide

theorem TxCause.code_lt (c : TxCause) : c.code < 4 := by cases c <;> decide

/-- The flag at bit k of a word is the binary digit k of the number the word is made from. -/
theorem getLsbD_ofNat_of_digit {n k : Nat} {b : Bool} (hk : k < 16) (h : n / 2 ^ k % 2 = bit b) :
    (BitVec.ofNat 16 n).getLsbD k = b := by
  rw [BitVec.getLsbD_ofNat, Nat.testBit_eq_decide_div_mod_eq, h, decide_bit_eq_one, decide_eq_true hk, Bool.true_and]

/-- The w-bit field at bit k of a word, as a number. -/
theorem toNat_extractLsb'_ofNat {n k w : Nat} (hk : k + w ≤ 16) :
    ((BitVec.ofNat 16 n).extractLsb' k w).toNat = n / 2 ^ k % 2 ^ w := by
  have hpow : 2 ^ 16 = 2 ^ k * 2 ^ (16 - k) := by rw [← Nat.pow_add]; congr 1; omega
  rw [BitVec.extractLsb'_toNat, BitVec.toNat_ofNat, Nat.shiftRight_eq_div_pow, hpow, Nat.mod_mul_right_div_self]
  exact Nat.mod_mod_of_dvd _ (Nat.pow_dvd_pow 2 (by omega))

/-- A field of a word is the vector whose number its digits are. -/
theorem extractLsb'_ofNat_of_digits {n k w : Nat} {v : BitVec w} (hk : k + w ≤ 16) (h : n / 2 ^ k % 2 ^ w = v.toNat) :
    (BitVec.ofNat 16 n).extractLsb' k w = v :=
  BitVec.eq_of_toNat_eq ((toNat_extractLsb'_ofNat hk).trans h)

theorem extractLsb'_ofNat_eq_zero {n k w : Nat} (hk : k + w ≤ 16) (h : n / 2 ^ k % 2 ^ w = 0) :
    (BitVec.ofNat 16 n).extractLsb' k w = 0 :=
  extractLsb'_ofNat_of_digits hk (h.trans BitVec.toNat_zero.symm)

/-- The fields of STATUS at their bits, the reserved bits 0 (10_state.md R45). -/
structure Status.WordFields (st : Status) (w : Half) : Prop where
  decDone : w.getLsbD 0 = st.decDone
  decOk : w.getLsbD 1 = st.decOk
  decReason : w.extractLsb' 2 3 = BitVec.ofNat 3 st.decReason.code
  decCkDbl : w.getLsbD 5 = st.decCkDbl
  txErr : w.getLsbD 6 = st.txErr
  txCause : w.extractLsb' 7 2 = BitVec.ofNat 2 st.txCause.code
  badOp : w.getLsbD 9 = st.badOp
  reserved : w.extractLsb' 10 6 = 0

theorem Status.word_fields (st : Status) : st.WordFields st.word := by
  have hDone := bit_lt_two st.decDone
  have hOk := bit_lt_two st.decOk
  have hReason := st.decReason.code_lt
  have hDbl := bit_lt_two st.decCkDbl
  have hErr := bit_lt_two st.txErr
  have hCause := st.txCause.code_lt
  have hBad := bit_lt_two st.badOp
  exact
    { decDone := getLsbD_ofNat_of_digit (by decide) (by omega)
      decOk := getLsbD_ofNat_of_digit (by decide) (by omega)
      decReason := extractLsb'_ofNat_of_digits (by decide) (by rw [BitVec.toNat_ofNat]; omega)
      decCkDbl := getLsbD_ofNat_of_digit (by decide) (by omega)
      txErr := getLsbD_ofNat_of_digit (by decide) (by omega)
      txCause := extractLsb'_ofNat_of_digits (by decide) (by rw [BitVec.toNat_ofNat]; omega)
      badOp := getLsbD_ofNat_of_digit (by decide) (by omega)
      reserved := extractLsb'_ofNat_eq_zero (by decide) (by omega) }

/-- The fill count in the low bits of a buffer control register (10_state.md R46). -/
theorem ctrlWord_len {w : Nat} (hw : w ≤ 15) (len : BitVec w) (ovf : Bool) :
    (ctrlWord len.toNat ovf).extractLsb' 0 w = len := by
  apply extractLsb'_ofNat_of_digits (by omega)
  have hpow : 32768 = 2 ^ w * 2 ^ (15 - w) := by rw [← Nat.pow_add, show w + (15 - w) = 15 by omega]
  rw [Nat.pow_zero, Nat.div_one, hpow, Nat.mul_assoc, Nat.add_mul_mod_self_left]
  exact Nat.mod_eq_of_lt len.isLt

theorem ctrlWord_ovf {len : Nat} (hlen : len < 32768) (ovf : Bool) : (ctrlWord len ovf).getLsbD 15 = ovf := by
  have hOvf := bit_lt_two ovf
  exact getLsbD_ofNat_of_digit (by decide) (by omega)

/-- The codes of DEC_REASON (60_exceptions.md R312). -/
theorem DecReason.ofNat_code (r : DecReason) :
    BitVec.ofNat 3 r.code = (if r = .short then 1 else if r = .sync then 2 else if r = .lenField then 3
      else if r = .lenMismatch then 4 else if r = .checksum then 5 else if r = .cmd then 6
      else if r = .dataShort then 7 else 0) := by
  cases r <;> rfl

/-- The codes of TX_CAUSE (60_exceptions.md R316). -/
theorem TxCause.ofNat_code (c : TxCause) :
    BitVec.ofNat 2 c.code = (if c = .txdOverflow then 1 else if c = .badParam then 2 else 0) := by
  cases c <;> rfl

theorem DecReason.toNat_ofNat_code (r : DecReason) : (BitVec.ofNat 3 r.code).toNat = r.code :=
  Nat.mod_eq_of_lt r.code_lt

theorem TxCause.toNat_ofNat_code (c : TxCause) : (BitVec.ofNat 2 c.code).toNat = c.code :=
  Nat.mod_eq_of_lt c.code_lt

theorem State.location_status (s : State) : s.location 0x000 = s.status.word := rfl

theorem State.location_rxCtrl (s : State) : s.location 0x001 = ctrlWord s.rxLen.toNat s.rxOvf := rfl

theorem State.location_txdCtrl (s : State) : s.location 0x002 = ctrlWord s.txdLen.toNat s.txdOvf := rfl

theorem State.location_txCtrl (s : State) : s.location 0x003 = ctrlWord s.txLen.toNat false := rfl

/-- Settles O59: the fields of STATUS and of the control registers are digits of the numbers those words are made from. -/
theorem statusLayout : Obligations.StatusLayout := by
  intro s
  rw [s.location_status, s.location_rxCtrl, s.location_txdCtrl, s.location_txCtrl]
  obtain ⟨hDone, hOk, hReason, hDbl, hErr, hCause, hBad, hReserved⟩ := s.status.word_fields
  have hRx := s.rxLen.isLt
  have hTxd := s.txdLen.isLt
  have hTx := s.txLen.isLt
  have hNoFlag : bit false = 0 := rfl
  have rxGap : (ctrlWord s.rxLen.toNat s.rxOvf).extractLsb' 9 6 = 0 :=
    extractLsb'_ofNat_eq_zero (by decide) (by omega)
  have txdGap : (ctrlWord s.txdLen.toNat s.txdOvf).extractLsb' 8 7 = 0 :=
    extractLsb'_ofNat_eq_zero (by decide) (by omega)
  have txGap : (ctrlWord s.txLen.toNat false).extractLsb' 9 7 = 0 :=
    extractLsb'_ofNat_eq_zero (by decide) (by omega)
  exact ⟨hDone, hOk, by rw [hReason, DecReason.toNat_ofNat_code], hReason.trans (DecReason.ofNat_code _), hDbl, hErr,
    by rw [hCause, TxCause.toNat_ofNat_code], hCause.trans (TxCause.ofNat_code _), hBad, hReserved,
    ctrlWord_len (by decide) _ _, rxGap, ctrlWord_ovf (by omega) _,
    ctrlWord_len (by decide) _ _, txdGap, ctrlWord_ovf (by omega) _,
    ctrlWord_len (by decide) _ _, txGap, rfl, rfl⟩

end Sys2Proof.Machine

/-! ## What each family of instructions keeps (10_state.md R40, R50) -/

namespace Sys2Proof.Machine

/-- What an instruction of family f that takes s to t keeps, and what it may do to the record. -/
structure FamilyFrame (f : Family) (s t : State) : Prop where
  rx : f ≠ .rxBuffer → f ≠ .inbound → SameRx s t
  txd : f ≠ .txdBuffer → SameTxd s t
  tx : f ≠ .tx → SameTx s t
  params : f ≠ .params → SameParams s t
  dec : f ≠ .decode → f ≠ .inbound → SameDec s t
  host : SameHost s t
  decoded : f = .decode ∨ f = .inbound →
    (t.status.decOk = true ∧ t.record.valid = true) ∨ (t.status.decOk = false ∧ t.record = s.record)

theorem FamilyFrame.of_next {f : Family} {s t u : State} (hu : FamilyFrame f s u)
    (h : (.next u : Host.Outcome State Fault Refusal) = .next t) : FamilyFrame f s t := by
  cases h
  exact hu

/-- BAD_OP is no family's own: every request writes it (60_exceptions.md R320). -/
theorem State.setBadOp_frame (s : State) (b : Bool) {f : Family} (hd : f ≠ .decode) (hi : f ≠ .inbound) :
    FamilyFrame f s (s.setBadOp b) where
  rx _ _ := ⟨rfl, rfl, fun _ => rfl⟩
  txd _ := ⟨rfl, rfl, fun _ => rfl⟩
  tx _ := ⟨rfl, fun _ => rfl, rfl, rfl, rfl⟩
  params _ _ := rfl
  dec _ _ := ⟨rfl, rfl, rfl, rfl, rfl, rfl⟩
  host := ⟨rfl, rfl, rfl, rfl⟩
  decoded h := (h.elim hd hi).elim

theorem State.setParam_frame (s : State) (i : BitVec 4) (v : Half) : FamilyFrame .params s (s.setParam i v) where
  rx _ _ := ⟨rfl, rfl, fun _ => rfl⟩
  txd _ := ⟨rfl, rfl, fun _ => rfl⟩
  tx _ := ⟨rfl, fun _ => rfl, rfl, rfl, rfl⟩
  params h := absurd rfl h
  dec _ _ := ⟨rfl, rfl, rfl, rfl, rfl, rfl⟩
  host := ⟨rfl, rfl, rfl, rfl⟩
  decoded := by simp

theorem State.txdClear_same (s : State) : SameButTxd s s.txdClear :=
  ⟨⟨rfl, rfl, fun _ => rfl⟩, ⟨rfl, fun _ => rfl, rfl, rfl, rfl⟩, fun _ => rfl, ⟨rfl, rfl, rfl, rfl, rfl, rfl⟩,
    ⟨rfl, rfl, rfl, rfl⟩⟩

theorem SameButTxd.frame {s t : State} (h : SameButTxd s t) : FamilyFrame .txdBuffer s t where
  rx _ _ := h.rx
  txd hf := absurd rfl hf
  tx _ := h.tx
  params _ := h.params
  dec _ _ := h.dec
  host := h.host
  decoded := by simp

theorem SameButTx.frame {s t : State} (h : SameButTx s t) : FamilyFrame .tx s t where
  rx _ _ := h.rx
  txd _ := h.txd
  tx hf := absurd rfl hf
  params _ := h.params
  dec _ _ := h.dec
  host := h.host
  decoded := by simp

theorem RxPushed.frame {s t : State} (h : RxPushed s t) : FamilyFrame .rxBuffer s t where
  rx hf := absurd rfl hf
  txd _ := h.txd
  tx _ := h.tx
  params _ := h.params
  dec _ _ := h.dec
  host := h.host
  decoded := by simp

theorem State.rxClear_pushed (s : State) : RxPushed s s.rxClear := s.rxLoad_pushed []

/-- Every record that a valid DECODE writes is marked valid (41_rx_parser.md R214). -/
theorem frameRecord_valid (B : List Byte) : (frameRecord B).valid = true := by
  unfold frameRecord extractRecord
  split <;> rfl

/-- A DECODE that succeeds leaves a valid record, one that fails the record it found (R214, R215). -/
theorem State.decodeRx_record (s : State) :
    (s.decodeRx.status.decOk = true ∧ s.decodeRx.record.valid = true) ∨
    (s.decodeRx.status.decOk = false ∧ s.decodeRx.record = s.record) := by
  obtain ⟨r, ck, _, h⟩ | ⟨ck, dbl, _, h⟩ := s.decodeRx_cases <;> rw [h]
  · exact .inr ⟨rfl, rfl⟩
  · exact .inl ⟨rfl, frameRecord_valid _⟩

theorem State.decodeRx_frame (s : State) : FamilyFrame .decode s s.decodeRx where
  rx _ _ := s.decodeRx_same.rx
  txd _ := s.decodeRx_same.txd
  tx _ := s.decodeRx_same.tx
  params _ := s.decodeRx_same.params
  dec hf := absurd rfl hf
  host := s.decodeRx_same.host
  decoded _ := s.decodeRx_record

/-- An inbound frame is a run of pushes and then a DECODE (30_encoding.md R133). -/
theorem State.rxFrame_frame (s : State) (bytes : List Byte) : FamilyFrame .inbound s (s.rxFrame bytes) := by
  have hLoad : RxPushed s (s.rxLoad bytes) := s.rxLoad_pushed bytes
  have hDec : SameButDec (s.rxLoad bytes) (s.rxFrame bytes) := (s.rxLoad bytes).decodeRx_same
  exact
    { rx := fun _ hf => absurd rfl hf
      txd := fun _ => hLoad.txd.trans hDec.txd
      tx := fun _ => hLoad.tx.trans hDec.tx
      params := fun _ => hLoad.params.trans hDec.params
      dec := fun _ hf => absurd rfl hf
      host := hLoad.host.trans hDec.host
      decoded := fun _ => (s.rxLoad bytes).decodeRx_record.imp_right fun ⟨hOk, hRec⟩ =>
        ⟨hOk, hRec.trans hLoad.dec.record⟩ }

/-- FRAME and SET fail or emit, and keep the same either way (42_tx_framer.md R256, R257). -/
theorem State.failOrEmit_same (s : State) (p : Prop) [Decidable p] (c : TxCause) (D : List Byte) :
    SameButTx s (if p then s.txFail c else s.emit D) := by
  split
  · exact s.txFail_same c
  · exact s.emit_same D

/-- Every instruction keeps what its family does not write. -/
theorem exec_familyFrame {i : Instr} {s t : State} (h : exec i s = .next t) : FamilyFrame i.family s t := by
  cases i with
  | nop => exact (s.setBadOp_frame false (by decide) (by decide)).of_next h
  | rxClr => exact s.rxClear_pushed.frame.of_next h
  | rxPush b => exact (s.rxPushByte_pushed b).frame.of_next h
  | decode => exact s.decodeRx_frame.of_next h
  | txdClr => exact s.txdClear_same.frame.of_next h
  | txdPush b => exact (s.txdPushByte_same b).1.frame.of_next h
  | frame => exact (s.failOrEmit_same _ _ _).frame.of_next h
  | bind => exact (s.txCommit_same _ _).frame.of_next h
  | query => exact (s.txCommit_same _ _).frame.of_next h
  | target z v => exact (s.emit_same _).frame.of_next h
  | setp k v => exact (s.setParam_frame k v).of_next h
  | set => exact (s.failOrEmit_same _ _ _).frame.of_next h
  | reservedC => exact (s.setBadOp_frame true (by decide) (by decide)).of_next h
  | reservedD => exact (s.setBadOp_frame true (by decide) (by decide)).of_next h
  | reservedE => exact (s.setBadOp_frame true (by decide) (by decide)).of_next h
  | reservedF => exact (s.setBadOp_frame true (by decide) (by decide)).of_next h
  | wireBind => exact (s.emitRegion_same _).frame.of_next h
  | wireQuery => exact (s.emitRegion_same _).frame.of_next h
  | wireTelemetrySingle body ck => exact (s.rxFrame_frame _).of_next h
  | wireSet body => exact (s.emitRegion_same _).frame.of_next h
  | wireTelemetryDual body ck => exact (s.rxFrame_frame _).of_next h
  | wireTargetLeft b => exact (s.emitRegion_same _).frame.of_next h
  | wireTargetRight b => exact (s.emitRegion_same _).frame.of_next h

theorem isDecode_iff {i : Instr} : i.isDecode = true ↔ i.family = .decode ∨ i.family = .inbound := by
  simp [Instr.isDecode]

/-- A changed record comes from a DECODE that succeeded, and is valid (10_state.md R40). -/
theorem exec_record_changed {i : Instr} {s t : State} (h : exec i s = .next t) (hne : t.record ≠ s.record) :
    i.isDecode = true ∧ t.status.decOk = true ∧ t.record.valid = true := by
  have hf := exec_familyFrame h
  have hd : i.family = .decode ∨ i.family = .inbound := by
    by_contra hn
    exact hne (hf.dec (fun e => hn (.inl e)) (fun e => hn (.inr e))).record
  obtain ⟨hOk, hValid⟩ | ⟨_, hSame⟩ := hf.decoded hd
  · exact ⟨isDecode_iff.mpr hd, hOk, hValid⟩
  · exact absurd hSame hne

theorem exec_record_of_failed {i : Instr} {s t : State} (h : exec i s = .next t) (hd : i.isDecode = true)
    (hFail : t.status.decOk = false) : t.record = s.record := by
  obtain ⟨hOk, _⟩ | ⟨_, hSame⟩ := (exec_familyFrame h).decoded (isDecode_iff.mp hd)
  · simp [hFail] at hOk
  · exact hSame

/-- Settles O56, from what each family keeps. -/
theorem writersOfState : Obligations.WritersOfState := by
  intro i s t h
  have hf := exec_familyFrame h
  refine ⟨fun hRx => ?_, fun hTxd => ?_, fun hTx => ?_, fun hParams => ?_, fun hDec => ?_, hf.host,
    exec_record_changed h, exec_record_of_failed h⟩
  · simp only [Instr.writesRx, decide_eq_false_iff_not, not_or] at hRx
    exact hf.rx hRx.1 hRx.2
  · exact hf.txd (by simpa [Instr.writesTxd] using hTxd)
  · exact hf.tx (by simpa [Instr.isTx] using hTx)
  · exact hf.params (by simpa [Instr.writesParams] using hParams)
  · simp only [Instr.isDecode, decide_eq_false_iff_not, not_or] at hDec
    exact hf.dec hDec.1 hDec.2

end Sys2Proof.Machine

/-! ## Results depend on their inputs alone (10_state.md R52) -/

namespace Sys2Proof.Machine

/-- Two states with the same logical RX buffer and overflow flag: DECODE ends the same way in both, and a reason of 5 or
more comes with the same checksum. -/
theorem State.decodeRx_alike {s s' : State} (hB : s.rxBytes = s'.rxBytes) (hOvf : s.rxOvf = s'.rxOvf) :
    (∃ r ck, s.decodeRx = s.rejectDecode r ck ∧ s'.decodeRx = s'.rejectDecode r ck ∧
      (5 ≤ r.code → ∃ c, ck = some c)) ∨
    (∃ R ck dbl, s.decodeRx = s.commitRecord R ck dbl ∧ s'.decodeRx = s'.commitRecord R ck dbl) := by
  obtain ⟨r, ck, hj, h⟩ | ⟨ck, dbl, hj, h⟩ := s.decodeRx_cases
  · refine .inl ⟨r, ck, h, by simp only [State.decodeRx, ← hB, ← hOvf, hj], fun hr => ?_⟩
    obtain ⟨_, hEarly⟩ | ⟨hck, _⟩ := judge_reject hj
    · rcases hEarly with rfl | rfl | rfl | rfl <;> simp [DecReason.code] at hr
    · exact ⟨_, hck⟩
  · exact .inr ⟨_, ck, dbl, h, by simp only [State.decodeRx, ← hB, ← hOvf, hj]⟩

/-- What a TX request reads beside its operands: the staged data region, its overflow flag, the parameter file. -/
structure SameTxInputs (s s' : State) : Prop where
  data : s.txdBytes = s'.txdBytes
  ovf : s.txdOvf = s'.txdOvf
  params : ∀ k, s.param k = s'.param k

/-- The same TX outcome from two states: one frame committed in both, or one cause of failure in both. -/
inductive TxAlike (s s' : State) : Host.Outcome State Fault Refusal → Host.Outcome State Fault Refusal → Prop where
  | commit (F : List Byte) (ck : Half) (hF : F.length < 512) :
      TxAlike s s' (.next (s.txCommit F ck)) (.next (s'.txCommit F ck))
  | fail (c : TxCause) : TxAlike s s' (.next (s.txFail c)) (.next (s'.txFail c))

theorem emit_alike (s s' : State) {D : List Byte} (hD : D.length ≤ 255) :
    TxAlike s s' (.next (s.emit D)) (.next (s'.emit D)) :=
  .commit _ _ (by simp; omega)

theorem emitRegion_alike (s s' : State) (D : List Byte) :
    TxAlike s s' (.next (s.emitRegion D)) (.next (s'.emitRegion D)) := by
  by_cases hD : D.length ≤ Config.txdBytes
  · simp only [State.emitRegion, hD, if_true]
    exact emit_alike s s' (hD.trans (by decide))
  · simp only [State.emitRegion, hD, if_false]
    exact .fail _

theorem SameTxInputs.setBody {s s' : State} (h : SameTxInputs s s') : s.setBody = s'.setBody := by
  simp only [State.setBody, State.setBodySingle, State.setBodyRight, State.paramFlag, State.paramSaver,
    State.paramByte, State.startDelayByte, h.params]

theorem State.setBody_length_le (s : State) : s.setBody.length ≤ 25 := by
  unfold State.setBody
  split <;> simp [State.setBodySingle, State.setBodyRight]

theorem execFrame_alike {s s' : State} (h : SameTxInputs s s') : TxAlike s s' (execFrame s) (execFrame s') := by
  unfold execFrame
  rw [← h.ovf, ← h.data]
  split
  · exact .fail _
  · have hLen := s.txdLen.isLt
    exact emit_alike s s' (by rw [State.txdBytes_length]; omega)

theorem execSet_alike {s s' : State} (h : SameTxInputs s s') : TxAlike s s' (execSet s) (execSet s') := by
  have hSaver : s.paramSaver = s'.paramSaver := by rw [State.paramSaver, h.params, State.paramSaver]
  unfold execSet
  rw [← hSaver, ← h.setBody]
  split
  · exact .fail _
  · have hLen := s.setBody_length_le
    exact emit_alike s s' (by rw [List.length_cons]; omega)

/-- Every TX instruction ends the same way in two states with the same inputs. -/
theorem exec_txAlike {i : Instr} (hi : i.isTx = true) {s s' : State} (h : SameTxInputs s s') :
    TxAlike s s' (exec i s) (exec i s') := by
  cases i with
  | frame => exact execFrame_alike h
  | bind => exact .commit _ _ (by decide)
  | query => exact .commit _ _ (by decide)
  | target z v => exact emit_alike s s' (by simp)
  | set => exact execSet_alike h
  | wireBind => exact emitRegion_alike s s' _
  | wireQuery => exact emitRegion_alike s s' _
  | wireSet body => exact emitRegion_alike s s' _
  | wireTargetLeft b => exact emitRegion_alike s s' _
  | wireTargetRight b => exact emitRegion_alike s s' _
  | _ => cases hi

/-- What two states show of a TX request that ended the same way in both. -/
theorem TxAlike.results {s s' t t' : State} (h : TxAlike s s' (.next t) (.next t')) (hw : s.txbuf.wf = true)
    (hw' : s'.txbuf.wf = true) :
    t.txBytes = t'.txBytes ∧ t.status.txErr = t'.status.txErr ∧ t.status.txCause = t'.status.txCause ∧
    (t.status.txErr = false → t.txCk = t'.txCk) := by
  cases h with
  | commit F ck hF =>
    have hFrame := (State.txCommit_committed hw hF ck).frame
    have hFrame' := (State.txCommit_committed hw' hF ck).frame
    exact ⟨hFrame.trans hFrame'.symm, rfl, rfl, fun _ => rfl⟩
  | fail c => exact ⟨rfl, rfl, rfl, nofun⟩

/-- What two states show of a DECODE that ended the same way in both. -/
theorem State.decodeRx_results {s s' : State} (hB : s.rxBytes = s'.rxBytes) (hOvf : s.rxOvf = s'.rxOvf) :
    s.decodeRx.status.decDone = s'.decodeRx.status.decDone ∧ s.decodeRx.status.decOk = s'.decodeRx.status.decOk ∧
    s.decodeRx.status.decReason = s'.decodeRx.status.decReason ∧
    s.decodeRx.status.decCkDbl = s'.decodeRx.status.decCkDbl ∧
    (s.decodeRx.status.decOk = true → s.decodeRx.record = s'.decodeRx.record) ∧
    (s.decodeRx.status.decOk = true ∨ 5 ≤ s.decodeRx.status.decReason.code → s.decodeRx.decCk = s'.decodeRx.decCk) := by
  obtain ⟨r, ck, h, h', hck⟩ | ⟨R, ck, dbl, h, h'⟩ := State.decodeRx_alike hB hOvf <;> rw [h, h']
  · refine ⟨rfl, rfl, rfl, rfl, nofun, fun hr => ?_⟩
    obtain ⟨c, rfl⟩ := hck (hr.resolve_left nofun)
    rfl
  · exact ⟨rfl, rfl, rfl, rfl, fun _ => rfl, fun _ => rfl⟩

/-- Settles O31: a DECODE and a TX request each end the same way in two states with the same inputs. -/
theorem resultsDependOnInputs : Obligations.ResultsDependOnInputs := by
  constructor
  · intro s s' t t' hB hOvf ht ht'
    cases ht
    cases ht'
    exact State.decodeRx_results hB hOvf
  · intro i s s' t t' hi hw hw' hData hOvf hParams ht ht'
    have hAlike := exec_txAlike hi ⟨hData, hOvf, hParams⟩
    rw [ht, ht'] at hAlike
    exact hAlike.results hw hw'

end Sys2Proof.Machine

/-! ## The read port's observations: windows, reserved addresses, the host's reads (20_memory.md R88, R89) -/

namespace Sys2Proof.Machine

theorem State.registerWords_length (s : State) : s.registerWords.length = 0x01E := rfl

/-- The reserved addresses of the read space (10_state.md R49). -/
def reservedAddr (a : BitVec 12) : Prop :=
  a.toNat = 0x01E ∨ a.toNat = 0x01F ∨ (0x030 ≤ a.toNat ∧ a.toNat < 0x400) ∨ 0xA00 ≤ a.toNat

/-- Past the last register the register file reads its default, and no other range holds a reserved address. -/
theorem State.location_of_reserved (s : State) {a : BitVec 12} (h : reservedAddr a) : s.location a = 0 := by
  unfold reservedAddr at h
  by_cases hReg : a.toNat < 0x020
  · have hPast : s.registerWords.length ≤ a.toNat := by rw [s.registerWords_length]; omega
    simp only [State.location, hReg, if_true]
    exact List.getD_eq_default _ _ hPast
  by_cases hGap : a.toNat < 0x400
  · have hParams : ¬ a.toNat < 0x030 := by omega
    simp only [State.location, hReg, hParams, hGap, if_true, if_false]
  · have h₁ : ¬ a.toNat < 0x030 := by omega
    have h₂ : ¬ a.toNat < 0x600 := by omega
    have h₃ : ¬ a.toNat < 0x800 := by omega
    have h₄ : ¬ a.toNat < 0xA00 := by omega
    simp only [State.location, hReg, h₁, hGap, h₂, h₃, h₄, if_false]

/-- Settles O58. -/
theorem windowsReadBytesOrZero : Obligations.WindowsReadBytesOrZero := by
  intro s k hk
  have hRx : (BitVec.ofNat 12 (0x400 + k)).toNat = 0x400 + k := by rw [BitVec.toNat_ofNat]; omega
  have hTxd : (BitVec.ofNat 12 (0x600 + k)).toNat = 0x600 + k := by rw [BitVec.toNat_ofNat]; omega
  have hTx : (BitVec.ofNat 12 (0x800 + k)).toNat = 0x800 + k := by rw [BitVec.toNat_ofNat]; omega
  refine ⟨?_, ?_, ?_, fun a ha => s.location_of_reserved ha⟩
  · rw [s.location_of_rxWindow (by omega) (by omega), hRx, Nat.add_sub_cancel_left]
    rfl
  · rw [s.location_of_txdWindow (by omega) (by omega), hTxd, Nat.add_sub_cancel_left]
    rfl
  · rw [s.location_of_txWindow (by omega) (by omega), hTx, Nat.add_sub_cancel_left]
    rfl

/-- A read at the head of the host's actions acts at once, in flight or not (20_memory.md R88). -/
theorem step_read {s : State} {a : BitVec 12} {rest : List HostAction} (hb : s.inbox = .read a :: rest) :
    step s = .next (s.driveRead a rest) := by
  simp only [step, stepBody, hb]

theorem State.driveRead_sameCore (s : State) (a : BitVec 12) (rest : List HostAction) :
    SameCore s (s.driveRead a rest) where
  rx := ⟨rfl, rfl, fun _ => rfl⟩
  txd := ⟨rfl, rfl, fun _ => rfl⟩
  tx := ⟨rfl, fun _ => rfl, rfl, rfl, rfl⟩
  params _ := rfl
  dec := ⟨rfl, rfl, rfl, rfl, rfl, rfl⟩
  badOp := rfl

theorem State.readPort_of_ready {s : State} (h : s.busy = false) (a : BitVec 12) : s.readPort a = s.location a := by
  simp [State.readPort, h]

theorem State.driveRead_rdData {s : State} (h : s.busy = false) (a : BitVec 12) (rest : List HostAction) :
    (s.driveRead a rest).rdData = s.location a :=
  State.readPort_of_ready (s := s.driveRead a rest) h a

/-- Settles O13. -/
theorem readObserves : Obligations.ReadObserves := fun s a rest hb =>
  ⟨s.driveRead a rest, step_read hb, s.driveRead_sameCore a rest, rfl, rfl, rfl,
    fun h => State.driveRead_rdData h a rest⟩

end Sys2Proof.Machine

/-! ## The invariant through the RX buffer, the staging buffer, the parameter file and STATUS (20_memory.md R91) -/

namespace Sys2Proof.Machine

theorem Status.Inv.withBadOp {st : Status} (h : st.Inv) (b : Bool) : (st.withBadOp b).Inv := { h with }

/-- A DECODE writes reason none exactly when it is valid, and the doubled form only then (41_rx_parser.md R214,
R215). -/
theorem Status.Inv.afterDecode {st : Status} (h : st.Inv) {ok : Bool} {r : DecReason} {dbl : Bool}
    (hr : r = .none ↔ ok = true) (hd : dbl = true → ok = true) : (st.afterDecode ok r dbl).Inv where
  okDone _ := rfl
  reason := hr.trans (or_iff_left Bool.true_eq_false.mp).symm
  dblOk := hd
  txCause := h.txCause

theorem Status.Inv.afterTx {st : Status} (h : st.Inv) {err : Bool} {c : TxCause} (hc : err = true ↔ c ≠ .none) :
    (st.afterTx err c).Inv :=
  { h with txCause := hc }

theorem State.Inv.setBadOp {s : State} (h : s.Inv) (b : Bool) : (s.setBadOp b).Inv :=
  { h with status := h.status.withBadOp b }

theorem State.Inv.rxClear {s : State} (h : s.Inv) : s.rxClear.Inv :=
  { h with
    rxLen := Nat.zero_le _
    rxOvf := nofun
    status := h.status.withBadOp false }

theorem State.rxAppend_rxLen_toNat {s : State} (hl : s.rxLen.toNat < 258) (b : Byte) :
    (s.rxAppend b).rxLen.toNat = s.rxLen.toNat + 1 := by
  simp [BitVec.toNat_add]; omega

theorem State.txdAppend_txdLen_toNat {s : State} (hl : s.txdLen.toNat < 253) (b : Byte) :
    (s.txdAppend b).txdLen.toNat = s.txdLen.toNat + 1 := by
  simp [BitVec.toNat_add]; omega

/-- The overflow flag stands only on a full buffer, and stays on it (41_rx_parser.md R193). -/
theorem State.Inv.rxPushByte {s : State} (h : s.Inv) (b : Byte) : (s.rxPushByte b).Inv := by
  obtain ⟨hl, hs⟩ | ⟨hl, hs⟩ := s.rxPushByte_cases b <;> rw [hs]
  · exact
      { h with
        rxWf := Memory.wf_write h.rxWf _ b
        rxWithin := Memory.within_write h.rxWithin hl b
        rxLen := by rw [State.rxAppend_rxLen_toNat hl]; exact hl
        rxOvf := fun ho => absurd (h.rxOvf ho) hl.ne
        status := h.status.withBadOp false }
  · exact
      { h with
        rxOvf := fun _ => Nat.le_antisymm h.rxLen hl
        status := h.status.withBadOp false }

theorem State.Inv.rxLoad {s : State} (h : s.Inv) (bytes : List Byte) : (s.rxLoad bytes).Inv :=
  List.foldlRecOn bytes State.rxPushByte h.rxClear fun _ ht b _ => ht.rxPushByte b

theorem State.Inv.txdClear {s : State} (h : s.Inv) : s.txdClear.Inv :=
  { h with
    txdLen := Nat.zero_le _
    txdOvf := nofun
    status := h.status.withBadOp false }

theorem State.Inv.txdPushByte {s : State} (h : s.Inv) (b : Byte) : (s.txdPushByte b).Inv := by
  obtain ⟨hl, hs⟩ | ⟨hl, hs⟩ := s.txdPushByte_cases b <;> rw [hs]
  · exact
      { h with
        txdWf := Memory.wf_write h.txdWf _ b
        txdWithin := Memory.within_write h.txdWithin hl b
        txdLen := by rw [State.txdAppend_txdLen_toNat hl]; exact hl
        txdOvf := fun ho => absurd (h.txdOvf ho) hl.ne
        status := h.status.withBadOp false }
  · exact
      { h with
        txdOvf := fun _ => Nat.le_antisymm h.txdLen hl
        status := h.status.withBadOp false }

/-- What a write of P0 stores has bits 15:7 zero (10_state.md R38). -/
theorem paramMask_zero_reserved (v : Half) : paramMask 0 v &&& 0xFF80 = 0 := by
  rw [paramMask, if_pos rfl, BitVec.and_assoc]
  exact BitVec.and_zero

theorem State.Inv.setParam {s : State} (h : s.Inv) (i : BitVec 4) (v : Half) : (s.setParam i v).Inv :=
  { h with
    flagsReserved := by
      rw [s.param_setParam]
      split
      · next hi => rw [← hi]; exact paramMask_zero_reserved v
      · exact h.flagsReserved
    status := h.status.withBadOp false }

/-! ## The invariant through the TX output buffer (42_tx_framer.md R256, R257) -/

/-- An emitted data region leaves one whole frame in TXBUF, with its checksum in TX_CK. -/
theorem State.Inv.emit {s : State} (h : s.Inv) {D : List Byte} (hD : D.length ≤ 253) : (s.emit D).Inv := by
  have hF : (frameOf D).1.length ≤ 258 := by rw [frameOf_fst_length]; omega
  have hc : Committed s (s.emit D) (frameOf D).1 (frameOf D).2 :=
    State.txCommit_committed h.txWf (by omega) _
  exact
    { h with
      txWf := Memory.wf_writeBytes h.txWf 0 _
      txWithin := Memory.within_writeBytes h.txWithin (by rw [Nat.zero_add]; exact hF)
      txLen := hc.txLen.trans_le hF
      status := h.status.afterTx (by decide)
      errEmpty := nofun
      txWhole := .inr ⟨D, hD, hc.frame, hc.txCk⟩ }

theorem State.Inv.txFail {s : State} (h : s.Inv) {c : TxCause} (hc : c ≠ .none) : (s.txFail c).Inv :=
  { h with
    txLen := Nat.zero_le _
    status := h.status.afterTx (iff_of_true rfl hc)
    errEmpty := fun _ => rfl
    txWhole := .inl rfl }

/-- How a TX request may end: a data region that fits emitted, or a failure with its cause. -/
inductive TxEnds (s : State) : Host.Outcome State Fault Refusal → Prop where
  | emit (D : List Byte) (hD : D.length ≤ 253) : TxEnds s (.next (s.emit D))
  | fail (c : TxCause) (hc : c ≠ .none) : TxEnds s (.next (s.txFail c))

theorem emitRegion_ends (s : State) (D : List Byte) : TxEnds s (.next (s.emitRegion D)) := by
  obtain ⟨hD, h⟩ | ⟨_, h⟩ := s.emitRegion_cases D <;> rw [h]
  · exact .emit D hD
  · exact .fail _ (by decide)

theorem execFrame_ends {s : State} (h : s.txdLen.toNat ≤ 253) : TxEnds s (execFrame s) := by
  unfold execFrame
  split
  · exact .fail _ (by decide)
  · exact .emit _ (by rw [State.txdBytes_length]; exact h)

theorem execSet_ends (s : State) : TxEnds s (execSet s) := by
  unfold execSet
  split
  · exact .fail _ (by decide)
  · have hLen := s.setBody_length_le
    exact .emit _ (by rw [List.length_cons]; omega)

/-- The constant frame of BIND is the frame of its command (42_tx_framer.md R250, 90_conflicts.md C8). -/
theorem execBind_eq_emit (s : State) : execBind s = .next (s.emit [Config.cmdBind]) := by
  have hF : frameOf [Config.cmdBind] = (Config.bindFrame, Config.bindCk) := by decide
  rw [State.emit, hF, execBind]

/-- The constant frame of QUERY is the frame of its command (R253, C8). -/
theorem execQuery_eq_emit (s : State) : execQuery s = .next (s.emit [Config.cmdQuery]) := by
  have hF : frameOf [Config.cmdQuery] = (Config.queryFrame, Config.queryCk) := by decide
  rw [State.emit, hF, execQuery]

theorem execBind_ends (s : State) : TxEnds s (execBind s) := by
  rw [execBind_eq_emit]
  exact .emit _ (by decide)

theorem execQuery_ends (s : State) : TxEnds s (execQuery s) := by
  rw [execQuery_eq_emit]
  exact .emit _ (by decide)

theorem exec_txEnds {i : Instr} (hi : i.isTx = true) {s : State} (h : s.txdLen.toNat ≤ 253) : TxEnds s (exec i s) := by
  cases i with
  | frame => exact execFrame_ends h
  | bind => exact execBind_ends s
  | query => exact execQuery_ends s
  | target z v => exact .emit _ (by simp)
  | set => exact execSet_ends s
  | wireBind => exact emitRegion_ends s _
  | wireQuery => exact emitRegion_ends s _
  | wireSet body => exact emitRegion_ends s _
  | wireTargetLeft b => exact emitRegion_ends s _
  | wireTargetRight b => exact emitRegion_ends s _
  | _ => cases hi

theorem exec_keeps_inv_of_tx {i : Instr} (hi : i.isTx = true) {s t : State} (h : s.Inv) (ht : exec i s = .next t) :
    t.Inv := by
  have hEnds := exec_txEnds hi h.txdLen
  rw [ht] at hEnds
  cases hEnds with
  | emit D hD => exact h.emit hD
  | fail c hc => exact h.txFail hc

/-! ## The invariant through DECODE: the record of a valid frame (41_rx_parser.md R209 to R215) -/

theorem signedField_signedByte (D : List Byte) (o : Nat) : signedByte (signedField D o) := ⟨byteAt D o, rfl⟩

theorem unsignedField_unsignedByte (D : List Byte) (o : Nat) : unsignedByte (unsignedField D o) := ⟨byteAt D o, rfl⟩

theorem zero_signedByte : signedByte 0#16 := ⟨0, rfl⟩

theorem zero_unsignedByte : unsignedByte 0#16 := ⟨0, rfl⟩

/-- BATT_PCT is 0 without a reading, and otherwise a byte other than the sentinel (40_primitives.md R169). -/
theorem battPctOf_spec (b : Byte) : (battPresentOf b = false → battPctOf b = 0) ∧
    (battPresentOf b = true → unsignedByte (battPctOf b) ∧ battPctOf b ≠ 0x7F) := by
  by_cases hb : b = Config.battSentinel
  · simp [battPresentOf, battPctOf, hb]
  · have hne : b.setWidth 16 ≠ (0x7F : Half) := by
      intro h
      apply hb
      simp only [Config.battSentinel]
      bv_omega
    have hPct : battPctOf b = b.setWidth 16 := if_neg hb
    exact ⟨fun hp => absurd hp (by simp [battPresentOf, hb]), fun _ => ⟨⟨b, hPct⟩, hPct ▸ hne⟩⟩

/-- VOLT_DECI never wraps: it is the sum as numbers (R170). -/
theorem voltDeciOf_toNat (int frac : Byte) :
    (voltDeciOf int frac).toNat = 10 * (int.setWidth 16).toNat + (frac.setWidth 16).toNat := by
  have hInt := int.isLt
  have hFrac := frac.isLt
  have hTen : (10 : Half).toNat = 10 := rfl
  simp only [voltDeciOf, BitVec.toNat_add, BitVec.toNat_mul, BitVec.toNat_setWidth, hTen]
  omega

section

variable {c d : Byte} (hc : c = Config.cmdTelemetrySingle ∨ c = Config.cmdTelemetryDual) (D : List Byte)
include hc

/-- The record without a right zone is one a DECODE may write, for a data length below the dual threshold. -/
theorem singleRecord_written (hd : 18 ≤ d.toNat) (hd' : d.toNat < 28) : (singleRecord D c d).Written where
  cmd := hc
  dlen := ⟨hd, by simp only [singleRecord]; omega⟩
  right := by simp [singleRecord]; omega
  absent _ := ⟨rfl, rfl, rfl, rfl, rfl, rfl, rfl, rfl⟩
  batt := battPctOf_spec _
  signed := by simp [singleRecord, signedField_signedByte, zero_signedByte]
  unsigned := by simp [singleRecord, unsignedField_unsignedByte, zero_unsignedByte]
  volt := voltDeciOf_toNat _ _
  comp := rfl

theorem withRightZone_written (hd : 28 ≤ d.toNat) (hd' : d.toNat ≤ 252) : ((singleRecord D c d).withRightZone D).Written where
  cmd := hc
  dlen := ⟨by simp only [singleRecord, Record.withRightZone]; omega, hd'⟩
  right := by simp [singleRecord, Record.withRightZone, hd]
  absent := nofun
  batt := battPctOf_spec _
  signed := by simp [singleRecord, Record.withRightZone, signedField_signedByte]
  unsigned := by simp [singleRecord, Record.withRightZone, unsignedField_unsignedByte]
  volt := voltDeciOf_toNat _ _
  comp := rfl

theorem extractRecord_written (hd : 18 ≤ d.toNat) (hd' : d.toNat ≤ 252) : (extractRecord D c d).Written := by
  unfold extractRecord
  split
  · next hDual => exact withRightZone_written hc D hDual hd'
  · next hSingle => exact singleRecord_written hc D hd (Nat.lt_of_not_le hSingle)

end

/-- The record of a frame that passed validation: LEN is one byte, so d = LEN - 3 is at most 252. -/
theorem ValidFrame.record_written {ovf : Bool} {B : List Byte} {ck : Half} {dbl : Bool} (h : ValidFrame ovf B ck dbl) :
    (frameRecord B).Written := by
  have hData := h.data
  have hLen : (byteAt B 2).toNat < 256 := (byteAt B 2).isLt
  have hd : (byteAt B 2 - 3).toNat = (byteAt B 2).toNat - 3 := by bv_omega
  exact extractRecord_written h.cmd _ (by omega) (by omega)

theorem judge_reject_ne_none {ovf : Bool} {B : List Byte} {r : DecReason} {ck : Option Half}
    (h : judge ovf B = .reject r ck) : r ≠ .none := by
  obtain ⟨_, hr⟩ | ⟨_, hr⟩ := judge_reject h
  · rcases hr with rfl | rfl | rfl | rfl <;> decide
  · rcases hr with rfl | rfl | rfl <;> decide

theorem State.Inv.rejectDecode {s : State} (h : s.Inv) {r : DecReason} (hr : r ≠ .none) (ck : Option Half) :
    (s.rejectDecode r ck).Inv :=
  { h with
    status := h.status.afterDecode (iff_of_false hr Bool.false_ne_true) id
    recordDone := fun _ => rfl
    okValid := nofun }

theorem State.Inv.commitRecord {s : State} (h : s.Inv) {R : Record} (hv : R.valid = true) (hR : R.Written) (ck : Half)
    (dbl : Bool) : (s.commitRecord R ck dbl).Inv :=
  { h with
    status := h.status.afterDecode (iff_of_true rfl rfl) fun _ => rfl
    recordReset := fun hn => absurd (hv.symm.trans hn) (by decide)
    recordWritten := fun _ => hR
    recordDone := fun _ => rfl
    okValid := fun _ => hv }

theorem State.Inv.decodeRx {s : State} (h : s.Inv) : s.decodeRx.Inv := by
  obtain ⟨r, ck, hj, hs⟩ | ⟨ck, dbl, hj, hs⟩ := s.decodeRx_cases <;> rw [hs]
  · exact h.rejectDecode (judge_reject_ne_none hj) ck
  · exact h.commitRecord (frameRecord_valid _) (judge_valid hj).record_written ck dbl

theorem State.Inv.rxFrame {s : State} (h : s.Inv) (bytes : List Byte) : (s.rxFrame bytes).Inv :=
  (h.rxLoad bytes).decodeRx

/-! ## The invariant through an instruction and a step -/

theorem State.Inv.of_next {t u : State} (h : u.Inv) (ht : (.next u : Host.Outcome State Fault Refusal) = .next t) :
    t.Inv := by
  cases ht
  exact h

/-- Every instruction keeps the invariant. -/
theorem exec_keeps_inv {i : Instr} {s t : State} (h : s.Inv) (ht : exec i s = .next t) : t.Inv := by
  cases i with
  | nop => exact (h.setBadOp false).of_next ht
  | rxClr => exact h.rxClear.of_next ht
  | rxPush b => exact (h.rxPushByte b).of_next ht
  | decode => exact h.decodeRx.of_next ht
  | txdClr => exact h.txdClear.of_next ht
  | txdPush b => exact (h.txdPushByte b).of_next ht
  | setp k v => exact (h.setParam k v).of_next ht
  | reservedC => exact (h.setBadOp true).of_next ht
  | reservedD => exact (h.setBadOp true).of_next ht
  | reservedE => exact (h.setBadOp true).of_next ht
  | reservedF => exact (h.setBadOp true).of_next ht
  | wireTelemetrySingle body ck => exact (h.rxFrame _).of_next ht
  | wireTelemetryDual body ck => exact (h.rxFrame _).of_next ht
  | frame | bind | query | target z v | set | wireBind | wireQuery | wireSet body | wireTargetLeft b
  | wireTargetRight b => exact exec_keeps_inv_of_tx rfl h ht

theorem State.Inv.ready {s : State} (h : s.Inv) : s.ready.Inv := { h with }

theorem complete_keeps_inv {it : Item} {s t : State} (h : s.Inv) (ht : complete it s = .next t) : t.Inv := by
  obtain ⟨i, _, hExec⟩ | ⟨bytes, e, _, _, rfl⟩ := complete_cases ht
  · exact exec_keeps_inv h.ready hExec
  · exact h.ready.rxFrame bytes

/-- rst puts back the state after reset, beside the host's side, which the invariant does not mention. -/
theorem State.assertReset_inv (s : State) (rest : List HostAction) : (s.assertReset rest).Inv := { resetInv with }

/-- Settles O4: what a step does, case by case, keeps the invariant. -/
theorem stepKeepsInv : Obligations.StepKeepsInv := by
  intro s t h ht
  obtain ⟨rest, _, rfl⟩ | ⟨a, rest, _, rfl⟩ | ⟨it, _, hDone⟩ | ⟨rest, _, _, rfl⟩ | ⟨it, rest, _, _, rfl⟩ |
    ⟨_, _, rfl⟩ := step_cases ht
  · exact s.assertReset_inv rest
  · exact { h with }
  · exact complete_keeps_inv h hDone
  · exact { h with }
  · exact { h with }
  · exact h

end Sys2Proof.Machine

/-! ## Stale buffer bytes: what two states that differ only in them show and do (20_memory.md R89) -/

namespace Sys2Proof.Machine

theorem sameBelow.windowWord {m m' : Memory} {n n' : Nat} (h : sameBelow m m' n) (hn : n = n') (k : Nat) :
    windowWord m n k = windowWord m' n' k := by
  subst hn
  by_cases hk : k < n
  · simp only [Machine.windowWord, hk, if_true, h k hk]
  · rw [windowWord_of_le m (Nat.le_of_not_lt hk), windowWord_of_le m' (Nat.le_of_not_lt hk)]

theorem SameShown.rxBytes {s t : State} (h : SameShown s t) : s.rxBytes = t.rxBytes := by
  rw [State.rxBytes, State.rxBytes, ← h.rxLen]
  exact Memory.readBytes_congr h.rx

theorem SameShown.txdBytes {s t : State} (h : SameShown s t) : s.txdBytes = t.txdBytes := by
  rw [State.txdBytes, State.txdBytes, ← h.txdLen]
  exact Memory.readBytes_congr h.txd

theorem SameShown.txInputs {s t : State} (h : SameShown s t) : SameTxInputs s t where
  data := h.txdBytes
  ovf := h.txdOvf
  params k := by simp only [State.param, h.params]

theorem SameShown.registerWords {s t : State} (h : SameShown s t) : s.registerWords = t.registerWords := by
  simp only [State.registerWords, h.status, h.rxLen, h.rxOvf, h.txdLen, h.txdOvf, h.txLen, h.decCk, h.txCk, h.record]

/-- The windows alone read buffer bytes, and only those below the fill counts. -/
theorem SameShown.location {s t : State} (h : SameShown s t) (a : BitVec 12) : s.location a = t.location a := by
  have hRx := h.rx.windowWord (congrArg BitVec.toNat h.rxLen) (a.toNat - 0x400)
  have hTxd := h.txd.windowWord (congrArg BitVec.toNat h.txdLen) (a.toNat - 0x600)
  have hTx := h.tx.windowWord (congrArg BitVec.toNat h.txLen) (a.toNat - 0x800)
  simp only [State.location, h.registerWords, h.params, hRx, hTxd, hTx]

theorem SameShown.busy {s t : State} (h : SameShown s t) : s.busy = t.busy := congrArg Option.isSome h.inFlight

theorem SameShown.readPort {s t : State} (h : SameShown s t) (a : BitVec 12) : s.readPort a = t.readPort a := by
  rw [State.readPort, State.readPort, h.busy, h.draws, h.location]

theorem SameShown.rdData {s t : State} (h : SameShown s t) : s.rdData = t.rdData := by
  rw [State.rdData, State.rdData, ← h.rdAddr, h.readPort]

/-! ## Stale bytes through the operations on the buffers -/

/-- A byte written at the fill count is the same in both buffers, and so is every byte below it. -/
theorem sameBelow.write {m m' : Memory} (hm : m.wf = true) (hm' : m'.wf = true) {n : Nat} (h : sameBelow m m' n)
    (b : Byte) : sameBelow (m.write n b) (m'.write n b) (n + 1) := by
  intro k hk
  rw [Memory.read_write hm, Memory.read_write hm']
  split
  · rfl
  · exact h k (by omega)

/-- A frame written from index 0 leaves nothing stale below its length. -/
theorem sameBelow_writeBytes {m m' : Memory} (hm : m.wf = true) (hm' : m'.wf = true) (F : List Byte) :
    sameBelow (m.writeBytes 0 F) (m'.writeBytes 0 F) F.length := by
  intro k hk
  rw [← Nat.zero_add k, Memory.read_writeBytes hm 0 F k hk, Memory.read_writeBytes hm' 0 F k hk]

theorem sameBelow_zero (m m' : Memory) : sameBelow m m' 0 := nofun

theorem SameShown.setBadOp {s t : State} (h : SameShown s t) (b : Bool) : SameShown (s.setBadOp b) (t.setBadOp b) :=
  { h with status := congrArg (Status.withBadOp · b) h.status }

theorem SameShown.rxClear {s t : State} (h : SameShown s t) : SameShown s.rxClear t.rxClear :=
  { h.setBadOp false with
    rxLen := rfl
    rxOvf := rfl
    rx := sameBelow_zero _ _ }

theorem SameShown.rxAppend {s t : State} (h : SameShown s t) (hs : s.rxbuf.wf = true) (ht : t.rxbuf.wf = true)
    (hl : s.rxLen.toNat < 258) (b : Byte) : SameShown (s.rxAppend b) (t.rxAppend b) :=
  { h.setBadOp false with
    rxLen := congrArg (· + 1) h.rxLen
    rx := by
      rw [State.rxAppend_rxLen_toNat hl, State.rxAppend_rxbuf, State.rxAppend_rxbuf, ← h.rxLen]
      exact h.rx.write hs ht b }

theorem SameShown.rxDrop {s t : State} (h : SameShown s t) : SameShown s.rxDrop t.rxDrop :=
  { h.setBadOp false with rxOvf := rfl }

theorem SameShown.rxPushByte {s t : State} (h : SameShown s t) (hs : s.rxbuf.wf = true) (ht : t.rxbuf.wf = true)
    (b : Byte) : SameShown (s.rxPushByte b) (t.rxPushByte b) := by
  unfold State.rxPushByte
  rw [← h.rxLen]
  split
  · next hl => exact h.rxAppend hs ht hl b
  · exact h.rxDrop

theorem SameShown.foldl_rxPushByte {s t : State} (h : SameShown s t) (hs : s.rxbuf.wf = true) (ht : t.rxbuf.wf = true)
    (bytes : List Byte) : SameShown (bytes.foldl State.rxPushByte s) (bytes.foldl State.rxPushByte t) := by
  induction bytes generalizing s t with
  | nil => exact h
  | cons b bytes ih =>
    exact ih (h.rxPushByte hs ht b) ((s.rxPushByte_pushed b).wf hs) ((t.rxPushByte_pushed b).wf ht)

theorem SameShown.rxLoad {s t : State} (h : SameShown s t) (hs : s.rxbuf.wf = true) (ht : t.rxbuf.wf = true)
    (bytes : List Byte) : SameShown (s.rxLoad bytes) (t.rxLoad bytes) :=
  h.rxClear.foldl_rxPushByte hs ht bytes

theorem SameShown.txdClear {s t : State} (h : SameShown s t) : SameShown s.txdClear t.txdClear :=
  { h.setBadOp false with
    txdLen := rfl
    txdOvf := rfl
    txd := sameBelow_zero _ _ }

theorem SameShown.txdAppend {s t : State} (h : SameShown s t) (hs : s.txd.wf = true) (ht : t.txd.wf = true)
    (hl : s.txdLen.toNat < 253) (b : Byte) : SameShown (s.txdAppend b) (t.txdAppend b) :=
  { h.setBadOp false with
    txdLen := congrArg (· + 1) h.txdLen
    txd := by
      rw [State.txdAppend_txdLen_toNat hl, State.txdAppend_txd, State.txdAppend_txd, ← h.txdLen]
      exact h.txd.write hs ht b }

theorem SameShown.txdDrop {s t : State} (h : SameShown s t) : SameShown s.txdDrop t.txdDrop :=
  { h.setBadOp false with txdOvf := rfl }

theorem SameShown.txdPushByte {s t : State} (h : SameShown s t) (hs : s.txd.wf = true) (ht : t.txd.wf = true)
    (b : Byte) : SameShown (s.txdPushByte b) (t.txdPushByte b) := by
  unfold State.txdPushByte
  rw [← h.txdLen]
  split
  · next hl => exact h.txdAppend hs ht hl b
  · exact h.txdDrop

theorem SameShown.setParam {s t : State} (h : SameShown s t) (i : BitVec 4) (v : Half) :
    SameShown (s.setParam i v) (t.setParam i v) :=
  { h.setBadOp false with params := by rw [State.setParam_params, State.setParam_params, h.params] }

theorem SameShown.txCommit {s t : State} (h : SameShown s t) (hs : s.txbuf.wf = true) (ht : t.txbuf.wf = true)
    {F : List Byte} (hF : F.length < 512) (ck : Half) : SameShown (s.txCommit F ck) (t.txCommit F ck) :=
  { h with
    txLen := rfl
    tx := by
      rw [(State.txCommit_committed hs hF ck).txLen]
      exact sameBelow_writeBytes hs ht F
    txCk := rfl
    status := congrArg (Status.afterTx · false .none) h.status }

theorem SameShown.txFail {s t : State} (h : SameShown s t) (c : TxCause) : SameShown (s.txFail c) (t.txFail c) :=
  { h with
    txLen := rfl
    tx := sameBelow_zero _ _
    status := congrArg (Status.afterTx · true c) h.status }

theorem SameShown.rejectDecode {s t : State} (h : SameShown s t) (r : DecReason) (ck : Option Half) :
    SameShown (s.rejectDecode r ck) (t.rejectDecode r ck) :=
  { h with
    decCk := congrArg ck.getD h.decCk
    status := congrArg (Status.afterDecode · false r false) h.status }

theorem SameShown.commitRecord {s t : State} (h : SameShown s t) (R : Record) (ck : Half) (dbl : Bool) :
    SameShown (s.commitRecord R ck dbl) (t.commitRecord R ck dbl) :=
  { h with
    record := rfl
    decCk := rfl
    status := congrArg (Status.afterDecode · true .none dbl) h.status }

/-- DECODE reads the logical RX buffer alone, so it ends the same way in both states. -/
theorem SameShown.decodeRx {s t : State} (h : SameShown s t) : SameShown s.decodeRx t.decodeRx := by
  obtain ⟨r, ck, hs, ht, _⟩ | ⟨R, ck, dbl, hs, ht⟩ := State.decodeRx_alike h.rxBytes h.rxOvf <;> rw [hs, ht]
  · exact h.rejectDecode r ck
  · exact h.commitRecord R ck dbl

theorem SameShown.rxFrame {s t : State} (h : SameShown s t) (hs : s.rxbuf.wf = true) (ht : t.rxbuf.wf = true)
    (bytes : List Byte) : SameShown (s.rxFrame bytes) (t.rxFrame bytes) :=
  (h.rxLoad hs ht bytes).decodeRx

/-! ## Stale bytes through an instruction and a step -/

/-- A TX request that ends the same way in both states leaves states that show the same. -/
theorem TxAlike.sameOutcome {s t : State} {o o' : Host.Outcome State Fault Refusal} (ha : TxAlike s t o o')
    (h : SameShown s t) (hs : s.txbuf.wf = true) (ht : t.txbuf.wf = true) : sameOutcome o o' := by
  cases ha with
  | commit F ck hF => exact h.txCommit hs ht hF ck
  | fail c => exact h.txFail c

theorem exec_sameOutcome (i : Instr) {s t : State} (hs : s.Inv) (ht : t.Inv) (h : SameShown s t) :
    sameOutcome (exec i s) (exec i t) := by
  cases i with
  | nop => exact h.setBadOp false
  | rxClr => exact h.rxClear
  | rxPush b => exact h.rxPushByte hs.rxWf ht.rxWf b
  | decode => exact h.decodeRx
  | txdClr => exact h.txdClear
  | txdPush b => exact h.txdPushByte hs.txdWf ht.txdWf b
  | setp k v => exact h.setParam k v
  | reservedC | reservedD | reservedE | reservedF => exact h.setBadOp true
  | wireTelemetrySingle body ck | wireTelemetryDual body ck => exact h.rxFrame hs.rxWf ht.rxWf _
  | frame | bind | query | target z v | set | wireBind | wireQuery | wireSet body | wireTargetLeft b
  | wireTargetRight b => exact (exec_txAlike rfl h.txInputs).sameOutcome h hs.txWf ht.txWf

theorem SameShown.ready {s t : State} (h : SameShown s t) : SameShown s.ready t.ready := { h with inFlight := rfl }

theorem complete_sameOutcome (it : Item) {s t : State} (hs : s.Inv) (ht : t.Inv) (h : SameShown s t) :
    sameOutcome (complete it s) (complete it t) := by
  unfold complete
  cases decodeItem it with
  | ok i => exact exec_sameOutcome i hs.ready ht.ready h.ready
  | error e =>
    cases it with
    | request w => rfl
    | frameIn bytes => exact h.ready.rxFrame hs.rxWf ht.rxWf bytes
    | frameOut bytes => rfl

theorem completeOr_sameOutcome {s t idle idle' : State} (hs : s.Inv) (ht : t.Inv) (h : SameShown s t)
    (hIdle : SameShown idle idle') : sameOutcome (completeOr s idle) (completeOr t idle') := by
  unfold completeOr
  rw [← h.inFlight]
  cases s.inFlight with
  | none => exact hIdle
  | some it => exact complete_sameOutcome it hs ht h

theorem SameShown.assertReset {s t : State} (h : SameShown s t) (rest : List HostAction) :
    SameShown (s.assertReset rest) (t.assertReset rest) where
  rxLen := rfl
  rxOvf := rfl
  rx := sameBelow_zero _ _
  txdLen := rfl
  txdOvf := rfl
  txd := sameBelow_zero _ _
  txLen := rfl
  tx := sameBelow_zero _ _
  params := rfl
  record := rfl
  status := rfl
  decCk := rfl
  txCk := rfl
  inFlight := rfl
  inbox := rfl
  rdAddr := h.rdAddr
  draws := h.draws

theorem SameShown.driveRead {s t : State} (h : SameShown s t) (a : BitVec 12) (rest : List HostAction) :
    SameShown (s.driveRead a rest) (t.driveRead a rest) :=
  { h with
    inbox := rfl
    rdAddr := rfl
    draws := congrArg (· + 1) h.draws }

theorem SameShown.accept {s t : State} (h : SameShown s t) (it : Item) (rest : List HostAction) :
    SameShown (s.accept it rest) (t.accept it rest) :=
  { h with
    inFlight := rfl
    inbox := rfl
    draws := congrArg (· + 1) h.draws }

theorem SameShown.dropWait {s t : State} (h : SameShown s t) (rest : List HostAction) :
    SameShown (s.dropWait rest) (t.dropWait rest) := { h with inbox := rfl }

/-- Both states take the same branch of the step: the host's next action and the item in flight are the same. -/
theorem step_sameOutcome {s t : State} (hs : s.Inv) (ht : t.Inv) (h : SameShown s t) :
    sameOutcome (step s) (step t) := by
  unfold step stepBody
  rw [← h.inbox]
  cases s.inbox with
  | nil => exact completeOr_sameOutcome hs ht h h
  | cons x rest =>
    cases x with
    | reset => exact h.assertReset rest
    | read a => exact h.driveRead a rest
    | awaitReady => exact completeOr_sameOutcome hs ht h (h.dropWait rest)
    | offer it => exact completeOr_sameOutcome hs ht h (h.accept it rest)

/-- Settles O57. -/
theorem staleBytesUnobservable : Obligations.StaleBytesUnobservable := fun _ _ hs ht h =>
  ⟨h.readPort, h.rdData, step_sameOutcome hs ht h⟩

end Sys2Proof.Machine

/-! ## Request words: a word's fields, the word of its fields, and the decoder case by case (30_encoding.md R110 to R117) -/

namespace Sys2Proof

section

variable {op hi lo : Nat} (hop : op < 16) (hhi : hi < 0x1000) (hlo : lo < 0x10000)
include hop hhi hlo

theorem opField_requestWord : (opField (requestWord op hi lo)).toNat = op := by
  rw [opField, BitVec.extractLsb'_toNat, Laws.requestWord_toNat op hi lo hop (by omega), Nat.shiftRight_eq_div_pow]
  omega

/-- The low n bits of a word are those of the field at bit 0. -/
theorem requestWord_low {n : Nat} (hn : n ≤ 16) : (requestWord op hi lo).extractLsb' 0 n = BitVec.ofNat n lo := by
  apply BitVec.eq_of_toNat_eq
  have hdvd : 2 ^ n ∣ 0x10000 := pow_dvd_pow 2 hn
  rw [BitVec.extractLsb'_toNat, Laws.requestWord_toNat op hi lo hop (by omega), Nat.shiftRight_zero, BitVec.toNat_ofNat]
  obtain ⟨q, hq⟩ := hdvd
  rw [show op * 0x10000000 + hi * 0x10000 + lo = lo + 2 ^ n * (q * (op * 0x1000 + hi)) by
    rw [← Nat.mul_assoc, ← hq]; ring]
  exact Nat.add_mul_mod_self_left _ _ _

theorem idxField_requestWord : idxField (requestWord op hi lo) = BitVec.ofNat 4 hi := by
  apply BitVec.eq_of_toNat_eq
  rw [idxField, BitVec.extractLsb'_toNat, Laws.requestWord_toNat op hi lo hop (by omega), Nat.shiftRight_eq_div_pow,
    BitVec.toNat_ofNat]
  omega

theorem zoneField_requestWord : zoneField (requestWord op hi lo) = if hi % 2 = 1 then .right else .left := by
  have hbit : (requestWord op hi lo).getLsbD 16 = decide (hi % 2 = 1) := by
    rw [BitVec.getLsbD, Laws.requestWord_toNat op hi lo hop (by omega), Nat.testBit_eq_decide_div_mod_eq]
    congr 2
    omega
  simp only [zoneField, hbit, decide_eq_true_eq]

end

theorem byteField_requestWord {op : Nat} (hop : op < 16) (b : Byte) : byteField (requestWord op 0 b.toNat) = b := by
  have hb : b.toNat < 256 := b.isLt
  rw [byteField, requestWord_low hop (by decide) (by omega) (by decide), BitVec.ofNat_toNat, BitVec.setWidth_eq]

theorem valueField_requestWord {op hi : Nat} (hop : op < 16) (hhi : hi < 0x1000) (v : Half) :
    valueField (requestWord op hi v.toNat) = v := by
  rw [valueField, requestWord_low hop hhi v.isLt (by decide), BitVec.ofNat_toNat, BitVec.setWidth_eq]

theorem decodeRequest_rxPush {w : ReqWord} (h : (opField w).toNat = 0x2) : decodeRequest w = .rxPush (byteField w) := by
  simp only [decodeRequest, h]

theorem decodeRequest_txdPush {w : ReqWord} (h : (opField w).toNat = 0x5) :
    decodeRequest w = .txdPush (byteField w) := by
  simp only [decodeRequest, h]

theorem decodeRequest_target {w : ReqWord} (h : (opField w).toNat = 0x9) :
    decodeRequest w = .target (zoneField w) (valueField w) := by
  simp only [decodeRequest, h]

theorem decodeRequest_setp {w : ReqWord} (h : (opField w).toNat = 0xA) :
    decodeRequest w = .setp (idxField w) (valueField w) := by
  simp only [decodeRequest, h]

/-- A request whose format has an operand (30_encoding.md R112 to R114), read back from its word. -/
theorem decodeRequest_rxPush_word (b : Byte) : decodeRequest (requestWord 0x2 0 b.toNat) = .rxPush b := by
  rw [decodeRequest_rxPush (opField_requestWord (by decide) (by decide) (by omega)), byteField_requestWord (by decide)]

theorem decodeRequest_txdPush_word (b : Byte) : decodeRequest (requestWord 0x5 0 b.toNat) = .txdPush b := by
  rw [decodeRequest_txdPush (opField_requestWord (by decide) (by decide) (by omega)), byteField_requestWord (by decide)]

theorem decodeRequest_target_word (z : Zone) (v : Half) :
    decodeRequest (requestWord 0x9 (zoneBit z) v.toNat) = .target z v := by
  have hz : zoneBit z < 0x1000 := by cases z <;> decide
  rw [decodeRequest_target (opField_requestWord (by decide) hz v.isLt), valueField_requestWord (by decide) hz,
    zoneField_requestWord (by decide) hz v.isLt]
  cases z <;> rfl

theorem decodeRequest_setp_word (i : BitVec 4) (v : Half) :
    decodeRequest (requestWord 0xA i.toNat v.toNat) = .setp i v := by
  have hi : i.toNat < 0x1000 := by omega
  rw [decodeRequest_setp (opField_requestWord (by decide) hi v.isLt), valueField_requestWord (by decide) hi,
    idxField_requestWord (by decide) hi v.isLt, BitVec.ofNat_toNat, BitVec.setWidth_eq]

/-- Every request is well-formed as it stands (30_encoding.md R118). -/
theorem decodeRequest_wf (w : ReqWord) : (decodeRequest w).wf = true := by
  unfold decodeRequest
  split <;> rfl

/-! ## Ignored bits of a request word (30_encoding.md R111 to R114, R119, R132) -/

theorem toNat_shiftRight_op (w : ReqWord) : (w >>> 28).toNat = (opField w).toNat := by
  have hw := w.isLt
  rw [opField, BitVec.toNat_ushiftRight, BitVec.extractLsb'_toNat, Nat.shiftRight_eq_div_pow]
  omega

/-- The mask of OP and the low n bits keeps OP and the number in the low n bits. -/
theorem and_opMask (w : ReqWord) {n : Nat} (hn : n ≤ 28) :
    w &&& (0xF#4 ++ BitVec.ofNat 28 (2 ^ n - 1) : BitVec (4 + 28)) =
      BitVec.ofNat 32 ((opField w).toNat * 0x10000000 + w.toNat % 2 ^ n) := by
  have hpow : 2 ^ n ≤ 2 ^ 28 := Nat.pow_le_pow_right (by decide) hn
  have hlow : (w.extractLsb' 0 28 &&& BitVec.ofNat 28 (2 ^ n - 1)).toNat = w.toNat % 2 ^ n := by
    rw [BitVec.toNat_and, BitVec.toNat_ofNat, Nat.mod_eq_of_lt (by omega), Nat.and_two_pow_sub_one_eq_mod,
      BitVec.extractLsb'_toNat, Nat.shiftRight_zero, Nat.mod_mod_of_dvd _ (pow_dvd_pow 2 hn)]
  have hlt : w.toNat % 2 ^ n < 2 ^ 28 := (Nat.mod_lt _ (by positivity)).trans_le hpow
  have hop := (opField w).isLt
  apply BitVec.eq_of_toNat_eq
  calc (w &&& (0xF#4 ++ BitVec.ofNat 28 (2 ^ n - 1) : BitVec (4 + 28))).toNat
      = ((opField w ++ w.extractLsb' 0 28 : BitVec (4 + 28)) &&& (BitVec.allOnes 4 ++ BitVec.ofNat 28 (2 ^ n - 1))).toNat := by
        rw [opField, BitVec.extractLsb'_append_extractLsb']
        rfl
    _ = (opField w).toNat <<< 28 ||| w.toNat % 2 ^ n := by
        rw [BitVec.and_append, BitVec.and_allOnes, BitVec.toNat_append, hlow]
    _ = (opField w).toNat * 0x10000000 + w.toNat % 2 ^ n := by
        rw [← Nat.shiftLeft_add_eq_or_of_lt hlt, Nat.shiftLeft_eq]
    _ = (BitVec.ofNat 32 ((opField w).toNat * 0x10000000 + w.toNat % 2 ^ n)).toNat := by
        generalize w.toNat % 2 ^ n = low at hlt
        rw [BitVec.toNat_ofNat, Nat.mod_eq_of_lt (by omega)]

/-- How many of a word's low bits hold operands: formats B, T, P and N (30_encoding.md R111 to R114). -/
def operandBits (op : Nat) : Nat :=
  if op = 0x2 ∨ op = 0x5 then 8 else if op = 0x9 then 17 else if op = 0xA then 20 else 0

theorem operandBits_le (op : Nat) : operandBits op ≤ 28 := by
  unfold operandBits
  split_ifs <;> decide

theorem operandMask_eq (w : ReqWord) :
    operandMask w = 0xF#4 ++ BitVec.ofNat 28 (2 ^ operandBits (opField w).toNat - 1) := by
  simp only [operandMask, operandBits, toNat_shiftRight_op]
  split_ifs <;> rfl

/-- A word with its ignored bits 0. -/
theorem and_operandMask (w : ReqWord) : w &&& operandMask w =
    BitVec.ofNat 32 ((opField w).toNat * 0x10000000 + w.toNat % 2 ^ operandBits (opField w).toNat) := by
  rw [operandMask_eq]
  exact and_opMask w (operandBits_le _)

/-- The OPs of format N, which has no operand (30_encoding.md R111). -/
def bareOp (op : Nat) : Prop := op ≠ 0x2 ∧ op ≠ 0x5 ∧ op ≠ 0x9 ∧ op ≠ 0xA

theorem masked_bare {w : ReqWord} (h : bareOp (opField w).toNat) :
    w &&& operandMask w = requestWord (opField w).toNat 0 0 := by
  obtain ⟨h2, h5, h9, hA⟩ := h
  have hbits : operandBits (opField w).toNat = 0 := by simp only [operandBits, h2, h5, h9, hA, or_self, if_false]
  rw [and_operandMask, hbits, Nat.pow_zero, Nat.mod_one, requestWord, Nat.zero_mul]

theorem masked_byte {w : ReqWord} {op : Nat} (h : (opField w).toNat = op) (hop : op = 0x2 ∨ op = 0x5) :
    w &&& operandMask w = requestWord op 0 (byteField w).toNat := by
  rw [and_operandMask, h, operandBits, if_pos hop, requestWord, byteField, BitVec.extractLsb'_toNat,
    Nat.shiftRight_zero, Nat.zero_mul, Nat.add_zero]

theorem zoneBit_zoneField (w : ReqWord) : zoneBit (zoneField w) = w.toNat / 0x10000 % 2 := by
  have hbit : w.getLsbD 16 = decide (w.toNat / 0x10000 % 2 = 1) := by
    rw [BitVec.getLsbD, Nat.testBit_eq_decide_div_mod_eq]
  rw [zoneField, hbit]
  split <;> simp_all [zoneBit]

theorem masked_target {w : ReqWord} (h : (opField w).toNat = 0x9) :
    w &&& operandMask w = requestWord 0x9 (zoneBit (zoneField w)) (valueField w).toNat := by
  have hbits : operandBits 0x9 = 17 := rfl
  rw [and_operandMask, h, hbits, requestWord, zoneBit_zoneField, valueField, BitVec.extractLsb'_toNat,
    Nat.shiftRight_zero]
  congr 1
  omega

theorem masked_setp {w : ReqWord} (h : (opField w).toNat = 0xA) :
    w &&& operandMask w = requestWord 0xA (idxField w).toNat (valueField w).toNat := by
  have hbits : operandBits 0xA = 20 := rfl
  rw [and_operandMask, h, hbits, requestWord, idxField, valueField, BitVec.extractLsb'_toNat,
    BitVec.extractLsb'_toNat, Nat.shiftRight_zero, Nat.shiftRight_eq_div_pow]
  congr 1
  omega

/-- A request without operands is its OP alone. -/
theorem encode_decodeRequest_bare {w : ReqWord} (h : bareOp (opField w).toNat) :
    encode (decodeRequest w) = .request (requestWord (opField w).toNat 0 0) := by
  obtain ⟨h2, h5, h9, hA⟩ := h
  have hop := (opField w).isLt
  unfold decodeRequest
  split
  case h_3 hw => exact absurd hw h2
  case h_6 hw => exact absurd hw h5
  case h_10 hw => exact absurd hw h9
  case h_11 hw => exact absurd hw hA
  case h_16 =>
    have hF : (opField w).toNat = 0xF := by
      simp only [imp_false] at *
      omega
    rw [hF]
    rfl
  all_goals
    next hw =>
      rw [hw]
      rfl

/-- Settles O7, format by format. -/
theorem requestReencoded : Obligations.RequestReencoded := by
  intro w
  by_cases h2 : (opField w).toNat = 0x2
  · rw [decodeRequest_rxPush h2, masked_byte h2 (.inl rfl), encode]
  by_cases h5 : (opField w).toNat = 0x5
  · rw [decodeRequest_txdPush h5, masked_byte h5 (.inr rfl), encode]
  by_cases h9 : (opField w).toNat = 0x9
  · rw [decodeRequest_target h9, masked_target h9, encode]
  by_cases hA : (opField w).toNat = 0xA
  · rw [decodeRequest_setp hA, masked_setp hA, encode]
  · have hBare : bareOp (opField w).toNat := ⟨h2, h5, h9, hA⟩
    rw [encode_decodeRequest_bare hBare, masked_bare hBare]

end Sys2Proof

/-! ## Wire frames: the parts of a frame's bytes, and the bytes of its parts (30_encoding.md R120 to R123) -/

namespace Sys2Proof

section

variable (cmd : Byte) (body : List Byte) (ck : Half)

theorem inboundBytes_length : (inboundBytes cmd body ck).length = body.length + 6 := by
  simp [inboundBytes]

theorem inboundBytes_eq : inboundBytes cmd body ck =
    [0xFE, 0xFE, BitVec.ofNat 8 (body.length + 3), cmd] ++ body ++ trailer ck := rfl

theorem byteAt_inboundBytes_sync0 : byteAt (inboundBytes cmd body ck) 0 = Config.sync := rfl

theorem byteAt_inboundBytes_sync1 : byteAt (inboundBytes cmd body ck) 1 = Config.sync := rfl

theorem byteAt_inboundBytes_len : byteAt (inboundBytes cmd body ck) 2 = BitVec.ofNat 8 (body.length + 3) := rfl

theorem byteAt_inboundBytes_cmd : byteAt (inboundBytes cmd body ck) 3 = cmd := rfl

theorem frameBody_inboundBytes : frameBody (inboundBytes cmd body ck) = body := by
  rw [frameBody, inboundBytes_length, inboundBytes_eq, Nat.add_sub_cancel, List.append_assoc]
  exact List.take_left

/-- The bytes before the trailer are those that the checksum covers. -/
theorem take_inboundBytes : (inboundBytes cmd body ck).take ((inboundBytes cmd body ck).length - 2) =
    frameHead (cmd :: body) := by
  rw [inboundBytes_length, inboundBytes]
  exact List.take_left' (by simp)

theorem extract_inboundBytes :
    extract (inboundBytes cmd body ck) ((inboundBytes cmd body ck).length - 2) .two .be .u = ck := by
  have hLen : (inboundBytes cmd body ck).length - 2 = (frameHead (cmd :: body)).length := by
    simp [inboundBytes_length]
  rw [hLen, inboundBytes, extract_trailer]

theorem frameTrailer_inboundBytes : frameTrailer (inboundBytes cmd body ck) = ck := extract_inboundBytes cmd body ck

end

/-- The frame of a data region is the inbound form with the plain checksum as its trailer (40_primitives.md R165). -/
theorem frameOf_cons (cmd : Byte) (body : List Byte) :
    (frameOf (cmd :: body)).1 = inboundBytes cmd body (frameOf (cmd :: body)).2 := rfl

/-- LEN counts the BODY and three bytes more where the BODY fits (30_encoding.md R120, R122). -/
theorem toNat_len {n : Nat} (h : n ≤ 252) : (BitVec.ofNat 8 (n + 3)).toNat = n + 3 := by
  rw [BitVec.toNat_ofNat]
  omega

theorem frameShape_eq_ok_iff {bytes : List Byte} : frameShape bytes = .ok () ↔
    6 ≤ bytes.length ∧ (byteAt bytes 0 = Config.sync ∧ byteAt bytes 1 = Config.sync) ∧
      3 + (byteAt bytes 2).toNat = bytes.length := by
  have hMin : Config.minFrame = 6 := rfl
  unfold frameShape
  split_ifs with hShort hSync hLen
  · exact iff_of_false nofun (by omega)
  · exact iff_of_false nofun (by tauto)
  · exact iff_of_false nofun (by tauto)
  · exact iff_of_true rfl ⟨by omega, by tauto, not_not.mp hLen⟩

theorem frameShape_inboundBytes (cmd : Byte) {body : List Byte} (h : body.length ≤ 252) (ck : Half) :
    frameShape (inboundBytes cmd body ck) = .ok () := by
  refine frameShape_eq_ok_iff.mpr ⟨?_, ⟨rfl, rfl⟩, ?_⟩
  · rw [inboundBytes_length]; omega
  · rw [byteAt_inboundBytes_len, toNat_len h, inboundBytes_length]; omega

/-- Two bytes are the trailer of their big-endian reading (20_memory.md R83). -/
theorem trailer_append (hi lo : Byte) : trailer (hi ++ lo : Half) = [hi, lo] := by
  have hHi : (hi ++ lo : Half).extractLsb' 8 8 = hi := BitVec.extractLsb'_append_eq_left
  have hLo : (hi ++ lo : Half).extractLsb' 0 8 = lo := BitVec.extractLsb'_append_eq_right
  rw [trailer, hHi, hLo]

theorem drop_eq_trailer {bytes : List Byte} (h : 2 ≤ bytes.length) :
    bytes.drop (bytes.length - 2) = trailer (frameTrailer bytes) := by
  have hNext : bytes.length - 2 + 1 < bytes.length := by omega
  rw [List.drop_eq_getElem_cons (by omega), List.drop_eq_getElem_cons hNext, List.drop_of_length_le (by omega),
    frameTrailer, extract, trailer_append, byteAt_eq (by omega), byteAt_eq hNext]

theorem take_eq_frameHead {bytes : List Byte} (h : frameShape bytes = .ok ()) :
    bytes.take (bytes.length - 2) = frameHead (byteAt bytes 3 :: frameBody bytes) := by
  obtain ⟨hMin, ⟨hSync0, hSync1⟩, hLen⟩ := frameShape_eq_ok_iff.mp h
  match bytes with
  | b0 :: b1 :: b2 :: b3 :: rest =>
    obtain rfl : b0 = Config.sync := hSync0
    obtain rfl : b1 = Config.sync := hSync1
    change 3 + b2.toNat = rest.length + 4 at hLen
    change 6 ≤ rest.length + 4 at hMin
    have hBody : frameBody (Config.sync :: Config.sync :: b2 :: b3 :: rest) = rest.take (rest.length - 2) := rfl
    have hb2 : BitVec.ofNat 8 ((b3 :: rest.take (rest.length - 2)).length + 2) = b2 := by
      apply BitVec.eq_of_toNat_eq
      rw [BitVec.toNat_ofNat, List.length_cons, List.length_take, Nat.mod_eq_of_lt (by omega)]
      omega
    have hTake : (Config.sync :: Config.sync :: b2 :: b3 :: rest).take (rest.length + 4 - 2) =
        Config.sync :: Config.sync :: b2 :: b3 :: rest.take (rest.length - 2) := by
      rw [show rest.length + 4 - 2 = rest.length - 2 + 4 by omega]
      rfl
    have hCmd : byteAt (Config.sync :: Config.sync :: b2 :: b3 :: rest) 3 = b3 := rfl
    rw [hCmd, hBody, frameHead, hb2]
    exact hTake

/-- Bytes with the shape of a frame are the frame of their CMD, BODY and trailer: the parts drop no byte. -/
theorem inboundBytes_of_parts {bytes : List Byte} (h : frameShape bytes = .ok ()) :
    inboundBytes (byteAt bytes 3) (frameBody bytes) (frameTrailer bytes) = bytes := by
  obtain ⟨hMin, _, _⟩ := frameShape_eq_ok_iff.mp h
  rw [inboundBytes, ← take_eq_frameHead h, ← drop_eq_trailer (by omega), List.take_append_drop]

/-! ## The wire decoders: what they read from a frame, and from nothing else (30_encoding.md R123, R124) -/

theorem decodeIn_of_shape {bytes : List Byte} (h : frameShape bytes = .ok ()) : decodeIn bytes =
    if byteAt bytes 3 = Config.cmdTelemetrySingle then
      .ok (.wireTelemetrySingle (frameBody bytes) (frameTrailer bytes))
    else if byteAt bytes 3 = Config.cmdTelemetryDual then
      .ok (.wireTelemetryDual (frameBody bytes) (frameTrailer bytes))
    else .error (.badCommand (byteAt bytes 3)) := by
  rw [decodeIn, h]

theorem decodeOut_of_shape {bytes : List Byte} (h : frameShape bytes = .ok ()) : decodeOut bytes =
    if frameTrailer bytes = ck16 (bytes.take (bytes.length - 2)) then outCommand (byteAt bytes 3) (frameBody bytes)
    else .error .badChecksum := by
  rw [decodeOut, h]

/-- Both wire decoders check the shape of a frame first. -/
theorem frameShape_of_decodeIn {bytes : List Byte} {i : Instr} (h : decodeIn bytes = .ok i) :
    frameShape bytes = .ok () := by
  cases hs : frameShape bytes with
  | ok _ => rfl
  | error e => rw [decodeIn, hs] at h; cases h

theorem frameShape_of_decodeOut {bytes : List Byte} {i : Instr} (h : decodeOut bytes = .ok i) :
    frameShape bytes = .ok () := by
  cases hs : frameShape bytes with
  | ok _ => rfl
  | error e => rw [decodeOut, hs] at h; cases h

theorem decodeIn_inboundBytes (cmd : Byte) {body : List Byte} (h : body.length ≤ 252) (ck : Half) :
    decodeIn (inboundBytes cmd body ck) =
      if cmd = Config.cmdTelemetrySingle then .ok (.wireTelemetrySingle body ck)
      else if cmd = Config.cmdTelemetryDual then .ok (.wireTelemetryDual body ck)
      else .error (.badCommand cmd) := by
  rw [decodeIn_of_shape (frameShape_inboundBytes cmd h ck), byteAt_inboundBytes_cmd, frameBody_inboundBytes,
    frameTrailer_inboundBytes]

theorem decodeOut_frameOf (cmd : Byte) {body : List Byte} (h : body.length ≤ 252) :
    decodeOut (frameOf (cmd :: body)).1 = outCommand cmd body := by
  rw [frameOf_cons, decodeOut_of_shape (frameShape_inboundBytes cmd h _), take_inboundBytes, frameTrailer_inboundBytes,
    byteAt_inboundBytes_cmd, frameBody_inboundBytes, if_pos (frameOf_snd _)]

/-- A set frame's BODY has one of two lengths (30_encoding.md R127). -/
theorem length_of_setBodyOk {body : List Byte} (h : setBodyOk body = true) : body.length = 14 ∨ body.length = 25 := by
  unfold setBodyOk at h
  split at h
  · exact .inl rfl
  · exact .inr rfl
  · cases h

/-- Settles O5: a request is read back from its word, a wire frame from its bytes. -/
theorem decodeEncode : Obligations.DecodeEncode := by
  intro i hwf
  cases i with
  | nop | rxClr | decode | txdClr | frame | bind | query | set | reservedC | reservedD | reservedE | reservedF => rfl
  | rxPush b => exact congrArg Except.ok (decodeRequest_rxPush_word b)
  | txdPush b => exact congrArg Except.ok (decodeRequest_txdPush_word b)
  | target z v => exact congrArg Except.ok (decodeRequest_target_word z v)
  | setp k v => exact congrArg Except.ok (decodeRequest_setp_word k v)
  | wireBind => exact decodeOut_frameOf Config.cmdBind (body := []) (Nat.zero_le _)
  | wireQuery => exact decodeOut_frameOf Config.cmdQuery (body := []) (Nat.zero_le _)
  | wireTelemetrySingle body ck =>
    exact decodeIn_inboundBytes Config.cmdTelemetrySingle (of_decide_eq_true hwf) ck
  | wireSet body =>
    have hLen := length_of_setBodyOk hwf
    have hOut : outCommand Config.cmdSet body = .ok (.wireSet body) := if_pos hwf
    exact (decodeOut_frameOf Config.cmdSet (by omega)).trans hOut
  | wireTelemetryDual body ck =>
    exact decodeIn_inboundBytes Config.cmdTelemetryDual (of_decide_eq_true hwf) ck
  | wireTargetLeft t => exact decodeOut_frameOf Config.cmdTargetLeft (body := [t]) (by simp)
  | wireTargetRight t => exact decodeOut_frameOf Config.cmdTargetRight (body := [t]) (by simp)

/-- Settles O8: words that agree on what their OPs' formats read encode to one word, which one instruction alone has. -/
theorem ignoredBits : Obligations.IgnoredBits := by
  intro w w' h
  have hEncode : encode (decodeRequest w) = encode (decodeRequest w') := by
    rw [requestReencoded w, requestReencoded w', h]
  have hOk : Except.ok (ε := FrameError) (decodeRequest w) = .ok (decodeRequest w') := by
    rw [← decodeEncode _ (decodeRequest_wf w), hEncode, decodeEncode _ (decodeRequest_wf w')]
  have hSame : decodeRequest w = decodeRequest w' := Except.ok.inj hOk
  exact ⟨hSame, fun s => by rw [hSame]⟩

/-- Settles O9: the decoder evaluated on each word and frame. -/
theorem sampleWords : Obligations.SampleWords :=
  ⟨by decide, by decide, by decide, by decide, by decide, by decide, by decide⟩

/-- The frame of an outbound command carries the CMD byte and the BODY it was read from. -/
theorem encode_of_outCommand {cmd : Byte} {body : List Byte} {i : Instr} (h : outCommand cmd body = .ok i) :
    encode i = .frameOut (frameOf (cmd :: body)).1 := by
  unfold outCommand at h
  split_ifs at h with hBind hNil hQuery hNil hSet hBody hLeft hRight
  · cases h; subst hBind hNil; rfl
  · cases h; subst hQuery hNil; rfl
  · cases h; subst hSet; rfl
  · subst hLeft
    match body with
    | [t] => cases h; rfl
  · subst hRight
    match body with
    | [t] => cases h; rfl

/-- Settles O6: the parts a decoder reads are those of the bytes. -/
theorem frameDecodeUnique : Obligations.FrameDecodeUnique := by
  constructor
  · intro bytes i h
    have hShape := frameShape_of_decodeIn h
    have hParts := inboundBytes_of_parts hShape
    rw [decodeIn_of_shape hShape] at h
    split_ifs at h with hSingle hDual
    · cases h
      rw [encode, ← hSingle, hParts]
    · cases h
      rw [encode, ← hDual, hParts]
  · intro bytes i h
    have hShape := frameShape_of_decodeOut h
    have hParts := inboundBytes_of_parts hShape
    rw [decodeOut_of_shape hShape] at h
    split_ifs at h with hSum
    have hFrame : (frameOf (byteAt bytes 3 :: frameBody bytes)).1 = bytes := by
      rw [frameOf_cons, frameOf_snd, ← take_eq_frameHead hShape, ← hSum, hParts]
    rw [encode_of_outCommand h, hFrame]

end Sys2Proof

/-! ## Outbound wire frames: what they leave, and the requests that emit them (30_encoding.md R123, 42_tx_framer.md R246) -/

namespace Sys2Proof.Machine

theorem State.emitRegion_of_le (s : State) {D : List Byte} (h : D.length ≤ 253) : s.emitRegion D = s.emit D :=
  if_pos h

/-- A data region that fits is committed as its frame (42_tx_framer.md R256). -/
theorem State.emitRegion_committed {s : State} (hw : s.txbuf.wf = true) {D : List Byte} (h : D.length ≤ 253) :
    Committed s (s.emitRegion D) (frameOf D).1 (frameOf D).2 := by
  rw [s.emitRegion_of_le h]
  exact State.txCommit_committed hw (by rw [frameOf_fst_length]; omega) _

theorem Committed.txLen_eq {s t : State} {D : List Byte} {ck : Half} (h : Committed s t (frameOf D).1 ck) {n : Nat}
    (hn : D.length + 5 = n) : t.txLen = BitVec.ofNat 9 n := by
  have hLen := h.txLen
  rw [frameOf_fst_length, hn] at hLen
  rw [← hLen, BitVec.ofNat_toNat, BitVec.setWidth_eq]

/-- Settles O54: each outbound frame is the commit of a data region that fits. -/
theorem outboundFrameResult : Obligations.OutboundFrameResult := by
  intro s body b hw
  have hBind : frameOf [Config.cmdBind] = ([0xFE, 0xFE, 0x03, 0x00, 0x01, 0xFF], 0x01FF) := by decide
  have hQuery : frameOf [Config.cmdQuery] = ([0xFE, 0xFE, 0x03, 0x01, 0x02, 0x00], 0x0200) := by decide
  have hCommit {D : List Byte} (hD : D.length ≤ 253) := State.emitRegion_committed hw hD
  refine ⟨⟨_, rfl, ?_⟩, ⟨_, rfl, ?_⟩, ⟨_, rfl, hCommit (by simp)⟩, ⟨_, rfl, hCommit (by simp)⟩, fun hwf => ?_⟩
  · have h := hCommit (D := [Config.cmdBind]) (by simp)
    rwa [hBind] at h
  · have h := hCommit (D := [Config.cmdQuery]) (by simp)
    rwa [hQuery] at h
  · have hBody := length_of_setBodyOk hwf
    have h := hCommit (D := Config.cmdSet :: body) (by rw [List.length_cons]; omega)
    exact ⟨_, rfl, h, hBody.imp (fun hLen => h.txLen_eq (by rw [List.length_cons, hLen]))
      (fun hLen => h.txLen_eq (by rw [List.length_cons, hLen]))⟩

/-! ### SET's frame is well-formed (43_command_marshaller.md R284, R290) -/

theorem State.paramFlag_le (s : State) (k : Nat) : s.paramFlag k ≤ 1#8 := by
  rw [State.paramFlag]
  cases (s.param 0).getLsbD k <;> decide

theorem setWidth_saver_le {b : BitVec 2} (h : b ≠ 3) : b.setWidth 8 ≤ 2#8 := by
  revert b
  decide

theorem State.setBodyOk_setBody {s : State} (h : s.paramSaver ≠ 3) : setBodyOk s.setBody = true := by
  have hSaver := setWidth_saver_le h
  unfold State.setBody
  split <;> simp [State.setBodySingle, State.setBodyRight, setBodyOk, s.paramFlag_le, hSaver]

theorem execSet_of_saver {s : State} (h : s.paramSaver ≠ 3) :
    execSet s = .next (s.emit (Config.cmdSet :: s.setBody)) := by
  rw [execSet, if_neg h]

theorem execSet_eq_wireSet {s : State} (h : s.paramSaver ≠ 3) : exec .set s = exec (.wireSet s.setBody) s := by
  have hLen := s.setBody_length_le
  calc exec .set s = .next (s.emit (Config.cmdSet :: s.setBody)) := execSet_of_saver h
    _ = .next (s.emitRegion (Config.cmdSet :: s.setBody)) := by
      rw [s.emitRegion_of_le (by rw [List.length_cons]; omega)]

/-! ### FRAME's frame, where the wire table has one (42_tx_framer.md R245) -/

/-- Frames of different data regions differ (40_primitives.md R165). -/
theorem frameOf_fst_injective {D D' : List Byte} (h : (frameOf D).1 = (frameOf D').1) : D = D' := by
  have hLen : D.length = D'.length := by simpa using congrArg List.length h
  have hHead : frameHead D = frameHead D' := (List.append_inj h (by simp [hLen])).1
  simpa [frameHead, hLen] using hHead

/-- An instruction that encodes as outbound bytes emits the data region of those bytes. -/
theorem exec_of_encode_frameOut {i : Instr} {D : List Byte} (h : encode i = .frameOut (frameOf D).1) (s : State) :
    exec i s = .next (s.emitRegion D) := by
  have hEmit {D' : List Byte} (hD : Item.frameOut (frameOf D').1 = .frameOut (frameOf D).1) :
      Host.Outcome.next (φ := Fault) (ρ := Refusal) (s.emitRegion D') = .next (s.emitRegion D) := by
    rw [frameOf_fst_injective (Item.frameOut.inj hD)]
  cases i with
  | wireBind => exact hEmit h
  | wireQuery => exact hEmit h
  | wireSet body => exact hEmit h
  | wireTargetLeft t => exact hEmit h
  | wireTargetRight t => exact hEmit h
  | _ => cases h

/-- LEN is one byte, so a frame's data region has at most 253 bytes (30_encoding.md R120, R122). -/
theorem length_le_of_frameShape {D : List Byte} (h : frameShape (frameOf D).1 = .ok ()) : D.length ≤ 253 := by
  obtain ⟨_, _, hLen⟩ := frameShape_eq_ok_iff.mp h
  have hByte := (byteAt (frameOf D).1 2).isLt
  rw [frameOf_fst_length] at hLen
  omega

theorem execFrame_eq_wire {s : State} (hOvf : s.txdOvf = false) {i : Instr}
    (h : decodeItem (.frameOut (frameOf s.txdBytes).1) = .ok i) : exec .frame s = exec i s := by
  have hFits := length_le_of_frameShape (frameShape_of_decodeOut h)
  calc exec .frame s = .next (s.emit s.txdBytes) := by simp only [exec, execFrame, hOvf, Bool.false_eq_true, if_false]
    _ = .next (s.emitRegion s.txdBytes) := by rw [s.emitRegion_of_le hFits]
    _ = exec i s := (exec_of_encode_frameOut (frameDecodeUnique.2 _ i h) s).symm

/-- Settles O53: a request and its wire frame emit the same data region. -/
theorem requestsEmitTheirWireFrames : Obligations.RequestsEmitTheirWireFrames := by
  intro s v
  refine ⟨?_, ?_, ?_, ?_, fun hSaver => ⟨s.setBody, State.setBodyOk_setBody hSaver, execSet_eq_wireSet hSaver⟩,
    fun hOvf i h => execFrame_eq_wire hOvf h⟩
  · exact execBind_eq_emit s
  · exact execQuery_eq_emit s
  · rfl
  · rfl

end Sys2Proof.Machine

/-! ## Inbound wire frames: the verdict on a frame's bytes and what it leaves (41_rx_parser.md R205 to R215) -/

namespace Sys2Proof.Machine

theorem ckMatch_eq_none {s t : Half} (h : t ≠ s) (hDbl : t ≠ dbl s) : ckMatch s t = .none := by
  rw [ckMatch, if_neg h, if_neg hDbl]

theorem ckMatch_self (s : Half) : ckMatch s s = .plain := if_pos rfl

theorem ckMatch_dbl {s : Half} (h : dbl s ≠ s) : ckMatch s (dbl s) = .doubled := by
  rw [ckMatch, if_neg h, if_pos rfl]

section

variable (c : Byte) {body : List Byte} (hFits : body.length ≤ 252) (ck : Half)
include hFits

/-- The bytes of a frame pass validation steps 1 to 3 (R201 to R203). -/
theorem judge_inboundBytes : judge false (inboundBytes c body ck) = judgeChecksum (inboundBytes c body ck) := by
  have hMin : Config.minFrame = 6 := rfl
  have hMinLen : Config.minLen = 3 := rfl
  have hLong : ¬ (false = false ∧ (inboundBytes c body ck).length < Config.minFrame) := by
    rw [inboundBytes_length]; omega
  have hSync : ¬ (byteAt (inboundBytes c body ck) 0 ≠ Config.sync ∨ byteAt (inboundBytes c body ck) 1 ≠ Config.sync) := by
    simp [byteAt_inboundBytes_sync0, byteAt_inboundBytes_sync1]
  have hLen : ¬ (byteAt (inboundBytes c body ck) 2).toNat < Config.minLen := by
    rw [byteAt_inboundBytes_len, toNat_len hFits]; omega
  have hTotal : ¬ (false = true ∨ 3 + (byteAt (inboundBytes c body ck) 2).toNat ≠ (inboundBytes c body ck).length) := by
    rw [byteAt_inboundBytes_len, toNat_len hFits, inboundBytes_length]
    exact not_or.mpr ⟨Bool.false_ne_true, by omega⟩
  rw [judge, if_neg hLong, if_neg hSync, if_neg hLen, if_neg hTotal]

/-- Validation step 4 on a frame (R205): the sum is that of its head, the trailer the one it carries. -/
theorem judge_wrongTrailer (h : ck ≠ (frameOf (c :: body)).2) (hDbl : ck ≠ dbl (frameOf (c :: body)).2) :
    judge false (inboundBytes c body ck) = .reject .checksum (some (frameOf (c :: body)).2) := by
  rw [judge_inboundBytes c hFits, judgeChecksum, take_inboundBytes, extract_inboundBytes, ← frameOf_snd]
  simp only [ckMatch_eq_none h hDbl]

theorem judge_rightTrailer (h : ck = (frameOf (c :: body)).2 ∨ ck = dbl (frameOf (c :: body)).2) :
    judge false (inboundBytes c body ck) =
      judgeCommand (inboundBytes c body ck) (frameOf (c :: body)).2 (decide (ck ≠ (frameOf (c :: body)).2)) := by
  rw [judge_inboundBytes c hFits, judgeChecksum, take_inboundBytes, extract_inboundBytes, ← frameOf_snd]
  by_cases hPlain : ck = (frameOf (c :: body)).2
  · simp [hPlain, ckMatch_self]
  · have hDbl := h.resolve_left hPlain
    have hne : dbl (frameOf (c :: body)).2 ≠ (frameOf (c :: body)).2 := hDbl ▸ hPlain
    simp [hDbl, hne, ckMatch_dbl hne]

/-- Validation steps 5 and 6 on a telemetry frame (R206, R208). -/
theorem judgeCommand_inboundBytes (hc : c = Config.cmdTelemetrySingle ∨ c = Config.cmdTelemetryDual) (sum : Half)
    (d : Bool) : judgeCommand (inboundBytes c body ck) sum d =
      if body.length < 18 then .reject .dataShort (some sum) else .valid sum d := by
  have hCmd : ¬ (c ≠ Config.cmdTelemetrySingle ∧ c ≠ Config.cmdTelemetryDual) := by tauto
  rw [judgeCommand, byteAt_inboundBytes_cmd, if_neg hCmd, byteAt_inboundBytes_len, toNat_len hFits, Nat.add_sub_cancel]
  rfl

/-- The record of a frame is that of its BODY, CMD and data length (R210). -/
theorem frameRecord_inboundBytes :
    frameRecord (inboundBytes c body ck) = extractRecord body c (BitVec.ofNat 8 body.length) := by
  have hData : ((inboundBytes c body ck).drop 4).take body.length = body := by
    rw [inboundBytes_eq, List.append_assoc]
    exact List.take_left
  have hSub : BitVec.ofNat 8 (body.length + 3) - 3 = BitVec.ofNat 8 body.length := by
    rw [BitVec.ofNat_add]
    exact BitVec.add_sub_cancel _ _
  rw [frameRecord, byteAt_inboundBytes_cmd, byteAt_inboundBytes_len, toNat_len hFits, Nat.add_sub_cancel, hData, hSub]

end

/-! ### The record's fields (R211 to R213) -/

theorem extractRecord_valid (D : List Byte) (c d : Byte) : (extractRecord D c d).valid = true := by
  unfold extractRecord
  split <;> rfl

theorem extractRecord_cmd (D : List Byte) (c d : Byte) : (extractRecord D c d).cmd = c := by
  unfold extractRecord
  split <;> rfl

theorem extractRecord_dlen (D : List Byte) (c d : Byte) : (extractRecord D c d).dlen = d := by
  unfold extractRecord
  split <;> rfl

theorem extractRecord_leftTarget (D : List Byte) (c d : Byte) :
    (extractRecord D c d).leftTarget = (byteAt D 4).signExtend 16 := by
  unfold extractRecord
  split <;> rfl

theorem extractRecord_rightPresent (D : List Byte) (c d : Byte) :
    (extractRecord D c d).rightPresent = true ↔ 28 ≤ d.toNat := by
  unfold extractRecord
  split
  · next h => exact iff_of_true rfl h
  · next h => exact iff_of_false nofun h

/-! ### RXFRAME of a frame's bytes (30_encoding.md R133) -/

theorem State.decodeRx_of_reject {s : State} {r : DecReason} {ck : Option Half}
    (h : judge s.rxOvf s.rxBytes = .reject r ck) : s.decodeRx = s.rejectDecode r ck := by
  simp only [State.decodeRx, h]

theorem State.decodeRx_of_valid {s : State} {ck : Half} {dbl : Bool} (h : judge s.rxOvf s.rxBytes = .valid ck dbl) :
    s.decodeRx = s.commitRecord (frameRecord s.rxBytes) ck dbl := by
  simp only [State.decodeRx, h]

theorem SameRx.rxBytes {s t : State} (h : SameRx s t) : t.rxBytes = s.rxBytes := by
  rw [State.rxBytes, State.rxBytes, h.rxLen]
  exact Memory.readBytes_congr fun k _ => h.bytes k

/-- Bytes that fit the RX buffer are loaded whole (41_rx_parser.md R194). -/
theorem State.rxLoad_of_le {s : State} (hw : s.rxbuf.wf = true) {bytes : List Byte} (h : bytes.length ≤ 258) :
    (s.rxLoad bytes).rxBytes = bytes ∧ (s.rxLoad bytes).rxOvf = false := by
  obtain ⟨hBytes, hOvf, _⟩ := State.rxLoad_spec hw bytes
  exact ⟨hBytes.trans (List.take_of_length_le h), hOvf.trans (decide_eq_false (by omega))⟩

/-- After a frame that fits, the RX buffer holds its bytes. -/
theorem State.rxFrame_rx {s : State} (hw : s.rxbuf.wf = true) {bytes : List Byte} (h : bytes.length ≤ 258) :
    (s.rxFrame bytes).rxBytes = bytes ∧ (s.rxFrame bytes).rxOvf = false := by
  obtain ⟨hBytes, hOvf⟩ := State.rxLoad_of_le hw h
  have hSame : SameRx (s.rxLoad bytes) (s.rxFrame bytes) := (s.rxLoad bytes).decodeRx_same.rx
  exact ⟨hSame.rxBytes.trans hBytes, hSame.rxOvf.trans hOvf⟩

section

variable {s : State} (hw : s.rxbuf.wf = true) {c : Byte} {body : List Byte} (hFits : body.length ≤ 252) {ck : Half}
include hw hFits

theorem judge_rxLoad_inboundBytes :
    judge (s.rxLoad (inboundBytes c body ck)).rxOvf (s.rxLoad (inboundBytes c body ck)).rxBytes =
      judge false (inboundBytes c body ck) := by
  obtain ⟨hBytes, hOvf⟩ := State.rxLoad_of_le hw (bytes := inboundBytes c body ck) (by rw [inboundBytes_length]; omega)
  rw [hBytes, hOvf]

theorem rxFrame_wrongTrailer (h : ck ≠ (frameOf (c :: body)).2) (hDbl : ck ≠ dbl (frameOf (c :: body)).2) :
    s.rxFrame (inboundBytes c body ck) =
      (s.rxLoad (inboundBytes c body ck)).rejectDecode .checksum (some (frameOf (c :: body)).2) :=
  State.decodeRx_of_reject ((judge_rxLoad_inboundBytes hw hFits).trans (judge_wrongTrailer c hFits ck h hDbl))

variable (hc : c = Config.cmdTelemetrySingle ∨ c = Config.cmdTelemetryDual)
  (hck : ck = (frameOf (c :: body)).2 ∨ ck = dbl (frameOf (c :: body)).2)
include hc hck

theorem rxFrame_shortBody (h : body.length < 18) :
    s.rxFrame (inboundBytes c body ck) =
      (s.rxLoad (inboundBytes c body ck)).rejectDecode .dataShort (some (frameOf (c :: body)).2) := by
  apply State.decodeRx_of_reject
  rw [judge_rxLoad_inboundBytes hw hFits, judge_rightTrailer c hFits ck hck, judgeCommand_inboundBytes c hFits ck hc,
    if_pos h]

theorem rxFrame_validFrame (h : 18 ≤ body.length) :
    s.rxFrame (inboundBytes c body ck) =
      (s.rxLoad (inboundBytes c body ck)).commitRecord (extractRecord body c (BitVec.ofNat 8 body.length))
        (frameOf (c :: body)).2 (decide (ck ≠ (frameOf (c :: body)).2)) := by
  have hJudge : judge false (inboundBytes c body ck) =
      .valid (frameOf (c :: body)).2 (decide (ck ≠ (frameOf (c :: body)).2)) := by
    rw [judge_rightTrailer c hFits ck hck, judgeCommand_inboundBytes c hFits ck hc, if_neg (by omega)]
  obtain ⟨hBytes, _⟩ := State.rxLoad_of_le hw (bytes := inboundBytes c body ck) (by rw [inboundBytes_length]; omega)
  rw [State.rxFrame, State.decodeRx_of_valid ((judge_rxLoad_inboundBytes hw hFits).trans hJudge), hBytes,
    frameRecord_inboundBytes c hFits]

end

/-- DEC_CK holds the sum of a telemetry frame whatever its trailer and its BODY's length (R205, R215). -/
theorem rxFrame_decCk {s : State} (hw : s.rxbuf.wf = true) {c : Byte} {body : List Byte} (hFits : body.length ≤ 252)
    (hc : c = Config.cmdTelemetrySingle ∨ c = Config.cmdTelemetryDual) (ck : Half) :
    (s.rxFrame (inboundBytes c body ck)).decCk = (frameOf (c :: body)).2 := by
  by_cases hck : ck = (frameOf (c :: body)).2 ∨ ck = dbl (frameOf (c :: body)).2
  · obtain hShort | hLong := Nat.lt_or_ge body.length 18
    · rw [rxFrame_shortBody hw hFits hc hck hShort]; rfl
    · rw [rxFrame_validFrame hw hFits hc hck hLong]; rfl
  · rw [not_or] at hck
    rw [rxFrame_wrongTrailer hw hFits hck.1 hck.2]; rfl

/-- The instruction of an inbound frame is RXFRAME of its bytes (log entry 8). -/
theorem exec_inbound {c : Byte} {body : List Byte} {ck : Half} {i : Instr}
    (h : c = 0x01 ∧ i = .wireTelemetrySingle body ck ∨ c = 0x02 ∧ i = .wireTelemetryDual body ck) (s : State) :
    exec i s = .next (s.rxFrame (inboundBytes c body ck)) := by
  obtain ⟨rfl, rfl⟩ | ⟨rfl, rfl⟩ := h <;> rfl

/-- Settles O33, by the three ends of a telemetry frame: a wrong trailer, a short BODY, a valid frame. -/
theorem inboundFrameResult : Obligations.InboundFrameResult := by
  intro s body ck c i hw hFits hi
  have hc : c = Config.cmdTelemetrySingle ∨ c = Config.cmdTelemetryDual := hi.imp And.left And.left
  have hExec := exec_inbound hi s
  have hFrame := s.rxFrame_frame (inboundBytes c body ck)
  have hLoaded := (s.rxLoad_pushed (inboundBytes c body ck)).dec.record
  obtain ⟨hBytes, hOvf⟩ := State.rxFrame_rx hw (bytes := inboundBytes c body ck) (by rw [inboundBytes_length]; omega)
  obtain ⟨hDone, hBadOp⟩ := (s.rxLoad (inboundBytes c body ck)).decodeRx_status
  rw [← inboundBytes_eq]
  refine ⟨hExec.trans (execAll_expandRxFrame _ s).symm, _, hExec, hBytes, hOvf, hBadOp, hDone,
    rxFrame_decCk hw hFits hc ck, fun h hDbl => ?_, fun hck hShort => ?_, fun hck hLong => ?_,
    hFrame.txd (by decide), hFrame.tx (by decide), hFrame.params (by decide), hFrame.host⟩
  · have hRej := (s.rxLoad (inboundBytes c body ck)).rejectDecode_rejected .checksum (some (frameOf (c :: body)).2)
    rw [rxFrame_wrongTrailer hw hFits h hDbl]
    exact ⟨hRej.decReason, hRej.decOk, hRej.decCkDbl, hRej.record.trans hLoaded⟩
  · have hRej := (s.rxLoad (inboundBytes c body ck)).rejectDecode_rejected .dataShort (some (frameOf (c :: body)).2)
    rw [rxFrame_shortBody hw hFits hc hck hShort]
    exact ⟨hRej.decReason, hRej.decOk, hRej.decCkDbl, hRej.record.trans hLoaded⟩
  · have hd : (BitVec.ofNat 8 body.length).toNat = body.length := by rw [BitVec.toNat_ofNat]; omega
    rw [rxFrame_validFrame hw hFits hc hck hLong]
    refine ⟨rfl, rfl, decide_eq_true_iff, rfl, extractRecord_valid _ _ _, extractRecord_cmd _ _ _, ?_, ?_, ?_⟩
    · exact (congrArg BitVec.toNat (extractRecord_dlen _ _ _)).trans hd
    · exact (extractRecord_leftTarget _ _ _).trans (by rw [byteAt_getD (by omega) 0])
    · exact (extractRecord_rightPresent _ _ _).trans (by rw [hd])

end Sys2Proof.Machine

/-! ## The checksum, its doubling and the framer as numbers (40_primitives.md R151 to R153, R165) -/

namespace Sys2Proof

open Sys2Proof.Machine (byteSum)

theorem byteSum_perm {S T : List Byte} (h : S.Perm T) : byteSum S = byteSum T :=
  (h.map BitVec.toNat).sum_eq

/-- Settles O36: the accumulator is the sum, and a sum does not see the order. -/
theorem checksumIsSum : Obligations.ChecksumIsSum := by
  refine ⟨ck16_toNat, fun S T h => BitVec.eq_of_toNat_eq ?_, rfl, rfl⟩
  rw [ck16_toNat, ck16_toNat, byteSum_perm h]

/-- The header adds 2 * 0xFE and LEN, the data region at most 0xFF per byte (R152). -/
theorem byteSum_frameHead_le {D : List Byte} (h : D.length ≤ 253) : byteSum (frameHead D) ≤ 0xFEFE := by
  have hSync : Config.sync.toNat = 0xFE := rfl
  have hLen : (BitVec.ofNat 8 (D.length + 2)).toNat < 256 := BitVec.isLt _
  have hData := byteSum_le D
  simp only [frameHead, byteSum_cons]
  omega

/-- Settles O37: a sum below 2^16 is its own residue. -/
theorem checksumNeverWraps : Obligations.ChecksumNeverWraps := by
  intro D h
  have hSum := byteSum_frameHead_le h
  refine ⟨hSum, ?_⟩
  rw [frameOf_snd, ck16_toNat, Nat.mod_eq_of_lt (by omega)]

theorem dbl_toNat (s : Half) : (dbl s).toNat = 2 * s.toNat % 65536 := by
  rw [dbl, BitVec.toNat_shiftLeft, Nat.shiftLeft_eq, Nat.mul_comm]

/-- DBL keeps bits 14:0 and appends a 0 (R153). -/
theorem dbl_eq_append (s : Half) : dbl s = s.extractLsb' 0 15 ++ 0#1 :=
  BitVec.shiftLeft_eq_concat_of_lt (by decide)

theorem dbl_eq_self_iff (s : Half) : dbl s = s ↔ s = 0 := by
  have hs := s.isLt
  have h0 : (0 : Half).toNat = 0 := rfl
  rw [← BitVec.toNat_inj, ← BitVec.toNat_inj, dbl_toNat, h0]
  omega

theorem dbl_xor_msb (s : Half) : dbl (s ^^^ 0x8000) = dbl s := by
  have hMsb : (0x8000 : Half) <<< 1 = 0#16 := rfl
  rw [dbl, dbl, BitVec.shiftLeft_xor_distrib, hMsb, BitVec.xor_zero]

/-- Bit 0 of the doubled form is 0, so an odd trailer is never taken for it (R154). -/
theorem ckMatch_of_odd {s t : Half} (h : t.getLsbD 0 = true) : ckMatch s t = .plain ∨ ckMatch s t = .none := by
  have hDbl : t ≠ dbl s := by
    rintro rfl
    simp [dbl] at h
  by_cases hPlain : t = s
  · exact .inl (if_pos hPlain)
  · exact .inr (Machine.ckMatch_eq_none hPlain hDbl)

/-- Settles O38. -/
theorem doublingLaws : Obligations.DoublingLaws := by
  refine ⟨fun s => ⟨dbl_toNat s, dbl_eq_append s⟩, fun S => ?_, rfl, rfl, dbl_eq_self_iff, dbl_xor_msb,
    fun s t h => ckMatch_of_odd h⟩
  rw [dbl_toNat, ck16_toNat]
  omega

/-- The trailer's two bytes are the high and the low digit of the checksum in base 256 (R164). -/
theorem trailer_eq_digits (s : Half) : trailer s = [BitVec.ofNat 8 (s.toNat / 256), BitVec.ofNat 8 (s.toNat % 256)] := by
  have hHi : s.extractLsb' 8 8 = BitVec.ofNat 8 (s.toNat / 256) := by
    apply BitVec.eq_of_toNat_eq
    rw [BitVec.extractLsb'_toNat, Nat.shiftRight_eq_div_pow, BitVec.toNat_ofNat]
  have hLo : s.extractLsb' 0 8 = BitVec.ofNat 8 (s.toNat % 256) := by
    apply BitVec.eq_of_toNat_eq
    rw [BitVec.extractLsb'_toNat, Nat.shiftRight_zero, BitVec.toNat_ofNat, Nat.mod_mod]
  rw [trailer, hHi, hLo]

theorem frameOf_snd_toNat (D : List Byte) : (frameOf D).2.toNat = byteSum (frameHead D) % 65536 := by
  rw [frameOf_snd, ck16_toNat]

/-- Settles O45: the frame is its head and the two digits of the head's sum. -/
theorem framerLayout : Obligations.FramerLayout := by
  refine ⟨fun D _ => ⟨?_, frameOf_fst_length D, frameOf_snd_toNat D⟩, rfl⟩
  have hLow : byteSum (frameHead D) % 65536 % 256 = byteSum (frameHead D) % 256 := by omega
  rw [frameOf_fst, trailer_eq_digits, frameOf_snd_toNat, hLow]
  rfl

/-! ## The byte-field extractor and the signed reading of a byte (40_primitives.md R155, R157, R163) -/

/-- s8 is the two's-complement reading (R157). -/
theorem s8_eq_toInt (b : Byte) : s8 b = b.toInt := by
  rw [s8, BitVec.toInt_eq_toNat_cond]
  split_ifs <;> omega

theorem toInt_signExtend_byte (b : Byte) : (b.signExtend 16).toInt = s8 b := by
  rw [s8_eq_toInt, BitVec.toInt_signExtend_of_le (by decide)]

/-- Bit 7 has the weight -128 where its unsigned weight is 128 (R157). -/
theorem s8_eq_sub_msb (b : Byte) : s8 b = b.toNat - 256 * bit b.msb := by
  rw [s8_eq_toInt, BitVec.toInt_eq_msb_cond]
  cases b.msb <;> simp [bit]

/-- The little-endian two-byte reading as a number (R155): the big-endian one of the two bytes exchanged. -/
theorem extract_le_toNat (S : List Byte) (o : Nat) (x : Ext) :
    (extract S o .two .le x).toNat = (byteAt S (o + 1)).toNat * 256 + (byteAt S o).toNat :=
  extract_be_toNat [byteAt S (o + 1), byteAt S o] 0 x

/-- Settles O39, width by width. -/
theorem extractorSettings : Obligations.ExtractorSettings := by
  refine fun S o => ⟨fun e h => ⟨?_, ?_⟩, fun x h => ⟨?_, ?_⟩⟩
  · rw [extract, extendByte, BitVec.toNat_setWidth_of_le (by decide), byteAt_eq h]
  · rw [extract, extendByte, toInt_signExtend_byte, byteAt_eq h]
  · rw [extract_be_toNat, byteAt_eq h, byteAt_eq (Nat.lt_of_succ_lt h)]
  · rw [extract_le_toNat, byteAt_eq h, byteAt_eq (Nat.lt_of_succ_lt h)]

theorem toNat_enc8 (v : Int) : ((Machine.enc8 v).toNat : Int) = v % 256 := by
  rw [Machine.enc8, BitVec.toNat_ofInt]
  omega

/-- ENC8 inverts s8 on the signed range (R163). -/
theorem s8_enc8 {v : Int} (hMin : -128 ≤ v) (hMax : v ≤ 127) : s8 (Machine.enc8 v) = v := by
  have h := toNat_enc8 v
  rw [s8]
  split_ifs <;> omega

/-- Settles O40. -/
theorem signedByteReading : Obligations.SignedByteReading :=
  ⟨fun b => ⟨rfl, s8_eq_sub_msb b, (toInt_signExtend_byte b).symm⟩, rfl, rfl, rfl, rfl, rfl,
    fun v hMin hMax => ⟨s8_enc8 hMin hMax, toNat_enc8 v⟩, rfl, rfl, rfl⟩

end Sys2Proof

namespace Sys2Proof.Machine

/-! ## A frame the framer builds, decoded (40_primitives.md R166) -/

/-- Validation step 5 on a frame whose CMD is no telemetry code (41_rx_parser.md R206). -/
theorem judgeCommand_unknown {c : Byte} (hc : ¬ (c = Config.cmdTelemetrySingle ∨ c = Config.cmdTelemetryDual))
    (body : List Byte) (ck sum : Half) (d : Bool) :
    judgeCommand (inboundBytes c body ck) sum d = .reject .cmd (some sum) := by
  rw [judgeCommand, byteAt_inboundBytes_cmd, if_pos (not_or.mp hc)]

theorem rxFrame_unknownCommand {s : State} (hw : s.rxbuf.wf = true) {c : Byte} {body : List Byte}
    (hFits : body.length ≤ 252) (hc : ¬ (c = Config.cmdTelemetrySingle ∨ c = Config.cmdTelemetryDual)) {ck : Half}
    (hck : ck = (frameOf (c :: body)).2 ∨ ck = dbl (frameOf (c :: body)).2) :
    s.rxFrame (inboundBytes c body ck) =
      (s.rxLoad (inboundBytes c body ck)).rejectDecode .cmd (some (frameOf (c :: body)).2) := by
  apply State.decodeRx_of_reject
  rw [judge_rxLoad_inboundBytes hw hFits, judge_rightTrailer c hFits ck hck, judgeCommand_unknown hc]

/-- Settles O34, by the three ends of a frame with the plain checksum: an unknown CMD, a short BODY, a valid frame. -/
theorem frameRoundTrip : Obligations.FrameRoundTrip := by
  intro s c body hw hFits
  refine ⟨_, execAll_expandRxFrame _ s, ?_⟩
  rw [frameOf_cons]
  by_cases hc : c = Config.cmdTelemetrySingle ∨ c = Config.cmdTelemetryDual
  · obtain hShort | hLong := Nat.lt_or_ge body.length 18
    · rw [rxFrame_shortBody hw hFits hc (.inl rfl) hShort]
      exact ⟨rfl, rfl, .inr (.inr rfl), iff_of_false nofun fun h => absurd h.2 (by omega)⟩
    · rw [rxFrame_validFrame hw hFits hc (.inl rfl) hLong]
      exact ⟨rfl, decide_eq_false (not_not.mpr rfl), .inl rfl, iff_of_true rfl ⟨hc, hLong⟩⟩
  · rw [rxFrame_unknownCommand hw hFits hc (.inl rfl)]
    exact ⟨rfl, rfl, .inr (.inl rfl), iff_of_false nofun fun h => hc h.1⟩

/-! ## ROUND and CLAMP8 (40_primitives.md R160 to R162) -/

theorem roundInt_zero (v : Int) : roundInt .awayFromZero 0 v = v := rfl

theorem roundInt_succ_of_nonneg (k : Nat) {v : Int} (h : 0 ≤ v) :
    roundInt .awayFromZero (k + 1) v = (v + 2 ^ k) / 2 ^ (k + 1) := if_pos h

theorem roundInt_succ_of_neg (k : Nat) {v : Int} (h : v < 0) :
    roundInt .awayFromZero (k + 1) v = -((-v + 2 ^ k) / 2 ^ (k + 1)) := if_neg (by omega)

theorem roundInt_succ_zero (k : Nat) : roundInt .awayFromZero (k + 1) 0 = 0 := by
  have hPow : (2 : Int) ^ k < 2 ^ (k + 1) := pow_lt_pow_right₀ (by decide) k.lt_succ_self
  rw [roundInt_succ_of_nonneg k le_rfl, zero_add, Int.ediv_eq_zero_of_lt (by positivity) hPow]

theorem roundInt_neg (nf : Nat) (v : Int) : roundInt .awayFromZero nf (-v) = -roundInt .awayFromZero nf v := by
  cases nf with
  | zero => rfl
  | succ k =>
    obtain hNeg | rfl | hPos := lt_trichotomy v 0
    · rw [roundInt_succ_of_neg k hNeg, roundInt_succ_of_nonneg k (by omega), neg_neg]
    · rw [neg_zero, roundInt_succ_zero, neg_zero]
    · rw [roundInt_succ_of_neg k (by omega), roundInt_succ_of_nonneg k (by omega), neg_neg]

/-- r units of 2^nf are nearest to v, and a tie is the one further from zero. -/
structure NearestAway (nf : Nat) (v r : Int) : Prop where
  close : 2 * (r * 2 ^ nf - v).natAbs ≤ 2 ^ nf
  away : 2 * (r * 2 ^ nf - v).natAbs = 2 ^ nf → v.natAbs < (r * 2 ^ nf).natAbs

theorem NearestAway.neg {nf : Nat} {v r : Int} (h : NearestAway nf v r) : NearestAway nf (-v) (-r) := by
  have hDiff : (-r * 2 ^ nf - -v).natAbs = (r * 2 ^ nf - v).natAbs := by
    rw [← Int.natAbs_neg]
    ring_nf
  refine ⟨hDiff ▸ h.close, fun hTie => ?_⟩
  rw [neg_mul, Int.natAbs_neg, Int.natAbs_neg]
  exact h.away (hDiff ▸ hTie)

/-- The quotient of v + 2^k by 2^(k+1) lies above v - 2^k and at most at v + 2^k. -/
theorem nearestAway_roundInt_of_nonneg (nf : Nat) {v : Int} (h : 0 ≤ v) :
    NearestAway nf v (roundInt .awayFromZero nf v) := by
  cases nf with
  | zero => constructor <;> simp [roundInt_zero]
  | succ k =>
    have hDouble : (2 : Int) ^ (k + 1) = 2 * 2 ^ k := pow_succ' 2 k
    have hDoubleNat : (2 : Nat) ^ (k + 1) = 2 * 2 ^ k := pow_succ' 2 k
    have hCast : ((2 ^ k : Nat) : Int) = 2 ^ k := by push_cast; rfl
    have hPos : (0 : Int) < 2 ^ k := by positivity
    have hDiv := Int.ediv_mul_add_emod (v + 2 ^ k) (2 ^ (k + 1))
    have hRest := Int.emod_nonneg (v + 2 ^ k) (show (2 : Int) ^ (k + 1) ≠ 0 by positivity)
    have hRest' := Int.emod_lt_of_pos (v + 2 ^ k) (show (0 : Int) < 2 ^ (k + 1) by positivity)
    rw [roundInt_succ_of_nonneg k h]
    constructor <;> omega

theorem nearestAway_roundInt (nf : Nat) (v : Int) : NearestAway nf v (roundInt .awayFromZero nf v) := by
  obtain h | h := le_total 0 v
  · exact nearestAway_roundInt_of_nonneg nf h
  · have hNeg := (nearestAway_roundInt_of_nonneg nf (neg_nonneg.mpr h)).neg
    rwa [roundInt_neg, neg_neg, neg_neg] at hNeg

/-- Settles O41. -/
theorem roundToNearest : Obligations.RoundToNearest :=
  ⟨fun nf v => ⟨(nearestAway_roundInt nf v).close, (nearestAway_roundInt nf v).away, roundInt_neg nf v⟩,
    by decide⟩

/-- Nearest integers of ordered readings are ordered: of two readings, those with results in the wrong order would be one
and the same reading, half a unit from both. -/
theorem roundInt_mono (nf : Nat) {v w : Int} (h : v ≤ w) :
    roundInt .awayFromZero nf v ≤ roundInt .awayFromZero nf w := by
  by_contra! hLt
  have hCast : ((2 ^ nf : Nat) : Int) = 2 ^ nf := by push_cast; rfl
  have hUnit : (roundInt .awayFromZero nf w + 1) * 2 ^ nf ≤ roundInt .awayFromZero nf v * 2 ^ nf :=
    mul_le_mul_of_nonneg_right hLt (by positivity)
  have hv := (nearestAway_roundInt nf v).close
  have hw := (nearestAway_roundInt nf w).close
  rw [add_one_mul] at hUnit
  obtain rfl : v = w := by omega
  exact lt_irrefl _ hLt

/-- A whole number of units is its own rounding. -/
theorem roundInt_mul_pow (nf : Nat) (c : Int) : roundInt .awayFromZero nf (c * 2 ^ nf) = c := by
  have hNear := (nearestAway_roundInt nf (c * 2 ^ nf)).close
  rw [← sub_mul, Int.natAbs_mul, Int.natAbs_pow, ← mul_assoc] at hNear
  have hUnits : 2 * (roundInt .awayFromZero nf (c * 2 ^ nf) - c).natAbs ≤ 1 :=
    Nat.le_of_mul_le_mul_right (by simpa using hNear) (Nat.two_pow_pos nf)
  omega

theorem clampInt_bounds (v : Int) : -128 ≤ clampInt v ∧ clampInt v ≤ 127 := by
  simp only [clampInt, Config.s8Min, Config.s8Max]
  omega

theorem clampInt_mono {v w : Int} (h : v ≤ w) : clampInt v ≤ clampInt w :=
  max_le_max le_rfl (min_le_min le_rfl h)

theorem clampInt_of_mem {v : Int} (hMin : -128 ≤ v) (hMax : v ≤ 127) : clampInt v = v := by
  simp only [clampInt, Config.s8Min, Config.s8Max]
  omega

/-- The operand that stands for a clamped value clamps to that value (R162). -/
theorem clamp8With_of_clamped {nf : Nat} {x x' : Half} (h : x'.toInt = clamp8With .awayFromZero nf x * 2 ^ nf) :
    clamp8With .awayFromZero nf x' = clamp8With .awayFromZero nf x := by
  obtain ⟨hMin, hMax⟩ := clampInt_bounds (roundInt .awayFromZero nf (asInt x))
  calc clamp8With .awayFromZero nf x' = clampInt (roundInt .awayFromZero nf x'.toInt) := rfl
    _ = clampInt (clamp8With .awayFromZero nf x) := by rw [h, roundInt_mul_pow]
    _ = clamp8With .awayFromZero nf x := clampInt_of_mem hMin hMax

/-- Settles O42. -/
theorem clampLaws : Obligations.ClampLaws := by
  refine ⟨fun nf x y => ?_, fun nf x x' h => clamp8With_of_clamped h,
    rfl, rfl, rfl, rfl, rfl, rfl, rfl, rfl, fun x => ⟨rfl, rfl⟩, by decide⟩
  obtain ⟨hMin, hMax⟩ := clampInt_bounds (roundInt .awayFromZero nf (asInt x))
  exact ⟨hMin, hMax, fun h => clampInt_mono (roundInt_mono nf h)⟩

/-! ## The compressor class in decivolts and in binary64 (40_primitives.md R170 to R172) -/

/-- The voltage by the source's float division and addition, in units of 2^-56 (R172). -/
def floatVolts (int frac : Nat) : Nat := binary64 (int * 2 ^ 56 + binary64 frac 10) (2 ^ 56)

/-- COMPCLASS on decivolts as a number (R171). -/
def compClassOf (deci : Nat) : Comp :=
  if 240 ≤ deci then .off else if 230 < deci ∧ deci < 239 then .on else .unknown

/-- The class of a float voltage by the source's comparisons with 24.0, 23.0 and 23.9 (R172). -/
def floatClassOf (volts : Nat) : Comp :=
  if binary64 24 1 ≤ volts then .off
  else if binary64 23 1 < volts ∧ volts < binary64 239 10 then .on
  else .unknown

theorem floatCompClass_eq (int frac : Byte) :
    floatCompClass int frac = floatClassOf (floatVolts int.toNat frac.toNat) := rfl

theorem compClass_voltDeciOf (int frac : Byte) :
    compClass (voltDeciOf int frac) = compClassOf (10 * int.toNat + frac.toNat) := by
  have hDeci : (voltDeciOf int frac).toNat = 10 * int.toNat + frac.toNat := by
    rw [voltDeciOf_toNat, BitVec.toNat_setWidth_of_le (by decide), BitVec.toNat_setWidth_of_le (by decide)]
  rw [← hDeci]
  rfl

/-- Below 2^9 the unit in the last place of a binary64 is at most 2^12 of the units of 2^-56, and rounding errs by at most
one of them. -/
theorem binary64_error {num den : Nat} (hDen : 0 < den) (hSmall : num * 2 ^ 56 / den < 2 ^ 65) :
    den * binary64 num den ≤ num * 2 ^ 56 + den * 2 ^ 12 ∧ num * 2 ^ 56 ≤ den * binary64 num den + den * 2 ^ 12 := by
  unfold binary64
  extract_lets q ulp below rest up
  by_cases hq : q = 0
  · have hLt : num * 2 ^ 56 < den := (Nat.div_eq_zero_iff_lt hDen).mp hq
    rw [if_pos hq]
    omega
  · have hLog : Nat.log2 q < 65 := (Nat.log2_lt hq).mpr hSmall
    have hUlp : ulp ≤ 2 ^ 12 := Nat.pow_le_pow_right (by decide) (by omega)
    have hStep : den * ulp ≤ den * 2 ^ 12 := Nat.mul_le_mul_left den hUlp
    have hDiv : den * ulp * below + rest = num * 2 ^ 56 := Nat.div_add_mod _ _
    have hRest : rest < den * ulp := Nat.mod_lt _ (Nat.mul_pos hDen (Nat.two_pow_pos _))
    have hBelow : den * (below * ulp) = den * ulp * below := by ring
    have hAbove : den * ((below + 1) * ulp) = den * ulp * below + den * ulp := by ring
    rw [if_neg hq]
    split_ifs
    · rw [hAbove]; omega
    · rw [hBelow]; omega

/-- The division and the addition together err by less than 2^17 units on ten times the voltage. -/
theorem floatVolts_error {int frac : Nat} (hInt : int < 256) (hFrac : frac < 256) :
    10 * floatVolts int frac < (10 * int + frac) * 2 ^ 56 + 2 ^ 17 ∧
      (10 * int + frac) * 2 ^ 56 < 10 * floatVolts int frac + 2 ^ 17 := by
  have hQuot := binary64_error (num := frac) (den := 10) (by decide) (by omega)
  have hSum := binary64_error (num := int * 2 ^ 56 + binary64 frac 10) (den := 2 ^ 56) (by decide) (by omega)
  rw [floatVolts]
  omega

/-! The three thresholds: away from a threshold the error is too small to cross it, and the bytes that meet one exactly are
few. -/

theorem floatVolts_of_240 {int frac : Nat} (h : 10 * int + frac = 240) : floatVolts int frac = binary64 24 1 := by
  have hAll : ∀ int < 25, floatVolts int (240 - 10 * int) = binary64 24 1 := by decide
  obtain rfl : frac = 240 - 10 * int := by omega
  exact hAll int (by omega)

theorem floatVolts_of_230 {int frac : Nat} (h : 10 * int + frac = 230) : floatVolts int frac = binary64 23 1 := by
  have hAll : ∀ int < 24, floatVolts int (230 - 10 * int) = binary64 23 1 := by decide
  obtain rfl : frac = 230 - 10 * int := by omega
  exact hAll int (by omega)

/-- At 23.9 V the sum is inexact, but never rounds below the literal 23.9. -/
theorem floatVolts_of_239 {int frac : Nat} (h : 10 * int + frac = 239) :
    binary64 239 10 ≤ floatVolts int frac := by
  have hAll : ∀ int < 24, binary64 239 10 ≤ floatVolts int (239 - 10 * int) := by decide
  obtain rfl : frac = 239 - 10 * int := by omega
  exact hAll int (by omega)

section

variable {int frac : Nat} (hInt : int < 256) (hFrac : frac < 256)
include hInt hFrac

theorem le_floatVolts_iff_240 : binary64 24 1 ≤ floatVolts int frac ↔ 240 ≤ 10 * int + frac := by
  have hError := floatVolts_error hInt hFrac
  have hExact : binary64 24 1 = 24 * 2 ^ 56 := by decide
  by_cases h : 10 * int + frac = 240
  · exact iff_of_true (floatVolts_of_240 h).ge h.ge
  · omega

theorem lt_floatVolts_iff_230 : binary64 23 1 < floatVolts int frac ↔ 230 < 10 * int + frac := by
  have hError := floatVolts_error hInt hFrac
  have hExact : binary64 23 1 = 23 * 2 ^ 56 := by decide
  by_cases h : 10 * int + frac = 230
  · exact iff_of_false (floatVolts_of_230 h).not_gt h.not_gt
  · omega

theorem floatVolts_lt_iff_239 : floatVolts int frac < binary64 239 10 ↔ 10 * int + frac < 239 := by
  have hError := floatVolts_error hInt hFrac
  have hLiteral := binary64_error (num := 239) (den := 10) (by decide) (by decide)
  by_cases h : 10 * int + frac = 239
  · exact iff_of_false (floatVolts_of_239 h).not_gt h.not_lt
  · omega

theorem floatClassOf_floatVolts : floatClassOf (floatVolts int frac) = compClassOf (10 * int + frac) := by
  simp only [floatClassOf, compClassOf, le_floatVolts_iff_240 hInt hFrac, lt_floatVolts_iff_230 hInt hFrac,
    floatVolts_lt_iff_239 hInt hFrac]

end

/-- Settles O44: the two classes make the same three comparisons. -/
theorem compressorFloatAgrees : Obligations.CompressorFloatAgrees := fun int frac =>
  calc floatCompClass int frac = floatClassOf (floatVolts int.toNat frac.toNat) := floatCompClass_eq int frac
    _ = compClassOf (10 * int.toNat + frac.toNat) := floatClassOf_floatVolts int.isLt frac.isLt
    _ = compClass (voltDeciOf int frac) := (compClass_voltDeciOf int frac).symm

end Sys2Proof.Machine

/-! ## Words of the RX requests (30_encoding.md R110 to R112) -/

namespace Sys2Proof

/-- OP read by a shift, as the statements read it, is the OP field. -/
theorem opField_of_shift {w : ReqWord} {op : Nat} (h : w >>> 28 = BitVec.ofNat 32 op) (hop : op < 16) :
    (opField w).toNat = op := by
  rw [← toNat_shiftRight_op, h, BitVec.toNat_ofNat]
  omega

theorem byteField_eq_setWidth (w : ReqWord) : byteField w = w.setWidth 8 :=
  BitVec.setWidth_eq_extractLsb' (by decide) |>.symm

theorem decodeRequest_rxClr {w : ReqWord} (h : (opField w).toNat = 0x1) : decodeRequest w = .rxClr := by
  simp only [decodeRequest, h]

/-! ## One byte of a part of a byte sequence -/

theorem byteAt_take {S : List Byte} {n o : Nat} (h : o < n) : byteAt (S.take n) o = byteAt S o := by
  simp only [byteAt, List.getElem?_take_of_lt h]

theorem byteAt_drop {S : List Byte} {n o : Nat} (h : n + o < S.length) : byteAt (S.drop n) o = byteAt S (n + o) := by
  rw [byteAt_eq h, byteAt_eq (by rw [List.length_drop]; omega), List.getElem_drop]

end Sys2Proof

namespace Sys2Proof.Machine

/-- Settles O19: RX.CLR writes the fill count, the flag and BAD_OP alone. -/
theorem rxClrResult : Obligations.RxClrResult := fun _ s hw =>
  have hPushed := s.rxClear_pushed
  ⟨decodeRequest_rxClr (opField_of_shift hw (by decide)), s.rxClear, rfl, rfl, rfl, fun _ => rfl, rfl,
    hPushed.txd, hPushed.tx, hPushed.params, hPushed.dec, hPushed.host⟩

/-! ## The validation of DECODE, step by step (41_rx_parser.md R201 to R206) -/

/-- Step 1 fails only without an overflow (R201). -/
theorem judge_short {B : List Byte} (h : B.length < 6) : judge false B = .reject .short none :=
  if_pos ⟨rfl, h⟩

section

variable {ovf : Bool} {B : List Byte} (hLong : ovf = true ∨ 6 ≤ B.length)
include hLong

/-- Once step 1 has passed, steps 2 to 4 decide. -/
theorem judge_of_long : judge ovf B =
    if byteAt B 0 ≠ Config.sync ∨ byteAt B 1 ≠ Config.sync then .reject .sync none
    else if (byteAt B 2).toNat < 3 then .reject .lenField none
    else if ovf = true ∨ 3 + (byteAt B 2).toNat ≠ B.length then .reject .lenMismatch none
    else judgeChecksum B := by
  have hPass : ¬ (ovf = false ∧ B.length < Config.minFrame) := by
    rintro ⟨rfl, hShort⟩
    exact absurd (hLong.resolve_left Bool.false_ne_true) (Nat.not_le.mpr hShort)
  exact if_neg hPass

theorem judge_sync (h : byteAt B 0 ≠ Config.sync ∨ byteAt B 1 ≠ Config.sync) : judge ovf B = .reject .sync none := by
  rw [judge_of_long hLong, if_pos h]

variable (hSync0 : byteAt B 0 = Config.sync) (hSync1 : byteAt B 1 = Config.sync)
include hSync0 hSync1

theorem judge_of_sync : judge ovf B =
    if (byteAt B 2).toNat < 3 then .reject .lenField none
    else if ovf = true ∨ 3 + (byteAt B 2).toNat ≠ B.length then .reject .lenMismatch none
    else judgeChecksum B := by
  rw [judge_of_long hLong, if_neg (by tauto)]

theorem judge_lenField (h : (byteAt B 2).toNat < 3) : judge ovf B = .reject .lenField none := by
  rw [judge_of_sync hLong hSync0 hSync1, if_pos h]

theorem judge_lenMismatch (hLen : 3 ≤ (byteAt B 2).toNat) (h : ovf = true ∨ 3 + (byteAt B 2).toNat ≠ B.length) :
    judge ovf B = .reject .lenMismatch none := by
  rw [judge_of_sync hLong hSync0 hSync1, if_neg (by omega), if_pos h]

end

/-- The reasons steps 2 and 3 reject with (R202 to R204). -/
def DecReason.isShape (r : DecReason) : Prop := r = .sync ∨ r = .lenField ∨ r = .lenMismatch

/-- After an overflow step 1 passes, and step 3 never does (R204). -/
theorem judge_overflow (B : List Byte) : ∃ r, judge true B = .reject r none ∧ r.isShape := by
  rw [judge_of_long (.inl rfl)]
  split_ifs with hSync hLen hTotal
  · exact ⟨_, rfl, .inl rfl⟩
  · exact ⟨_, rfl, .inr (.inl rfl)⟩
  · exact ⟨_, rfl, .inr (.inr rfl)⟩
  · exact absurd (.inl rfl) hTotal

/-- The validation on the first 258 of more bytes, with the overflow flag, is the one on all of them: LEN names at most
258 (R194). -/
theorem judge_take (bytes : List Byte) : judge (decide (258 < bytes.length)) (bytes.take 258) = judge false bytes := by
  by_cases h : 258 < bytes.length
  · have hLen : (byteAt bytes 2).toNat < 256 := (byteAt bytes 2).isLt
    have hTotal : 3 + (byteAt bytes 2).toNat ≠ bytes.length := by omega
    rw [decide_eq_true h, judge_of_long (.inl rfl), judge_of_long (.inr (by omega)), byteAt_take (by decide),
      byteAt_take (by decide), byteAt_take (by decide)]
    simp only [hTotal, ne_eq, not_false_eq_true, true_or, or_true, if_true]
  · rw [decide_eq_false h, List.take_of_length_le (by omega)]

/-! ## Loading the RX buffer (41_rx_parser.md R193, R194) -/

theorem State.decodeRx_of_overflow {s : State} (h : s.rxOvf = true) :
    s.decodeRx.status.decOk = false ∧ s.decodeRx.status.decReason.isShape := by
  obtain ⟨r, hJudge, hr⟩ := judge_overflow s.rxBytes
  rw [State.decodeRx_of_reject (h ▸ hJudge)]
  exact ⟨rfl, hr⟩

theorem State.rxPushByte_of_lt {s : State} (h : s.rxLen.toNat < 258) (b : Byte) : s.rxPushByte b = s.rxAppend b :=
  if_pos h

theorem State.rxPushByte_of_full {s : State} (h : s.rxLen.toNat = 258) (b : Byte) : s.rxPushByte b = s.rxDrop :=
  if_neg h.not_lt

/-- Settles O20, by the two ends of a push. -/
theorem rxPushResult : Obligations.RxPushResult := by
  intro w s hw hInv
  have hPushed := s.rxPushByte_pushed (w.setWidth 8)
  have hDecode : decodeRequest w = .rxPush (w.setWidth 8) := by
    rw [decodeRequest_rxPush (opField_of_shift hw (by decide)), byteField_eq_setWidth]
  refine ⟨hDecode, _, rfl, ?_, fun hlt => ?_, fun hFull => ?_, hPushed.txd, hPushed.tx, hPushed.params, hPushed.dec,
    hPushed.host⟩
  · obtain ⟨_, h⟩ | ⟨_, h⟩ := s.rxPushByte_cases (w.setWidth 8) <;> rw [h] <;> rfl
  · rw [State.rxPushByte_of_lt hlt]
    exact ⟨Memory.read_write_same hInv.rxWf _ _, fun k hk => Memory.read_write_ne _ _ hk,
      State.rxAppend_rxLen_toNat hlt _, rfl⟩
  · rw [State.rxPushByte_of_full hFull]
    obtain ⟨hOk, hReason⟩ := State.decodeRx_of_overflow (s := s.rxDrop) rfl
    exact ⟨rfl, rfl, fun _ => rfl, _, rfl, hOk, hReason⟩

/-- The expansion of RXLOAD has the effect of State.rxLoad (30_encoding.md R133). -/
theorem execAll_expandRxLoad (bytes : List Byte) (s : State) : execAll (expandRxLoad bytes) s = .next (s.rxLoad bytes) := by
  rw [expandRxLoad, execAll_cons rfl, ← List.append_nil (bytes.map Instr.rxPush), execAll_rxPush]
  rfl

/-- Settles O21. -/
theorem rxLoadResult : Obligations.RxLoadResult := by
  refine ⟨fun s bytes hw => ⟨_, execAll_expandRxLoad bytes s, ?_⟩, judge_take⟩
  obtain ⟨hBytes, hOvf, _⟩ := State.rxLoad_spec hw bytes
  refine ⟨hBytes, ?_, by rw [hOvf, decide_eq_true_iff]⟩
  rw [← State.rxBytes_length, hBytes, List.length_take]

/-- DECODE judges the loaded bytes as all the bytes (R194). -/
theorem judge_rxLoad {s : State} (hw : s.rxbuf.wf = true) (bytes : List Byte) :
    judge (s.rxLoad bytes).rxOvf (s.rxLoad bytes).rxBytes = judge false bytes := by
  obtain ⟨hBytes, hOvf, _⟩ := State.rxLoad_spec hw bytes
  rw [hBytes, hOvf, judge_take]

/-! ## DECODE's rejections, steps 1 to 3 (41_rx_parser.md R201 to R204, R215) -/

theorem exec_decode_rejected {s : State} {r : DecReason} {ck : Option Half} (h : judge s.rxOvf s.rxBytes = .reject r ck) :
    ∃ t, exec .decode s = .next t ∧ Rejected s t r (ck.getD s.decCk) :=
  ⟨_, congrArg Host.Outcome.next (State.decodeRx_of_reject h), s.rejectDecode_rejected r ck⟩

theorem State.byteAt_rxBytes {s : State} {k : Nat} (h : k < s.rxLen.toNat) : byteAt s.rxBytes k = s.rxbuf.read k := by
  rw [byteAt_eq (by rwa [State.rxBytes_length])]
  exact Memory.readBytes_get _ _ _ _

/-- Settles O22. -/
theorem decodeShort : Obligations.DecodeShort := by
  constructor
  · intro s hOvf hShort
    exact exec_decode_rejected (hOvf ▸ judge_short (by rwa [State.rxBytes_length]))
  · intro s hOvf
    obtain ⟨_, hReason⟩ := State.decodeRx_of_overflow hOvf
    refine ⟨_, rfl, fun hShort => ?_⟩
    simp [DecReason.isShape, hShort] at hReason

/-- Once step 1 has passed at least 6 bytes are held: after an overflow the buffer is full. -/
theorem State.Inv.six_le_rxLen {s : State} (h : s.Inv) (hLong : s.rxOvf = true ∨ 6 ≤ s.rxLen.toNat) :
    6 ≤ s.rxLen.toNat := by
  obtain hOvf | hLong := hLong
  · rw [h.rxOvf hOvf]; decide
  · exact hLong

/-- Settles O23. -/
theorem decodeSync : Obligations.DecodeSync := by
  intro s hInv hLong hSync
  have hSix := hInv.six_le_rxLen hLong
  apply exec_decode_rejected (ck := none)
  apply judge_sync (by rwa [State.rxBytes_length])
  rwa [State.byteAt_rxBytes (by omega), State.byteAt_rxBytes (by omega)]

/-- Settles O24. -/
theorem decodeLength : Obligations.DecodeLength := by
  intro s hInv hLong hSync0 hSync1
  have hSix := hInv.six_le_rxLen hLong
  have hLen : byteAt s.rxBytes 2 = s.rxbuf.read 2 := State.byteAt_rxBytes (by omega)
  rw [← State.byteAt_rxBytes (by omega)] at hSync0 hSync1
  rw [← State.rxBytes_length] at hLong ⊢
  rw [← hLen]
  exact ⟨fun h => exec_decode_rejected (judge_lenField hLong hSync0 hSync1 h),
    fun h hTotal => exec_decode_rejected (judge_lenMismatch hLong hSync0 hSync1 h hTotal)⟩


/-! ## A received buffer with the shape of a frame, as the parts of that frame (41_rx_parser.md R205 to R210) -/

theorem Memory.readBytes_take (m : Memory) {n k : Nat} (h : k ≤ n) : (m.readBytes n).take k = m.readBytes k := by
  rw [Memory.readBytes, ← List.map_take, List.take_range, Nat.min_eq_left h, Memory.readBytes]

/-- The BODY of the received frame. -/
def State.rxBody (s : State) : List Byte := frameBody s.rxBytes

section

variable {s : State} (h : s.ShapeOk)
include h

theorem State.ShapeOk.byteAt_len : byteAt s.rxBytes 2 = s.rxbuf.read 2 :=
  State.byteAt_rxBytes (by have := h.long; omega)

/-- Steps 1 to 3 of DECODE pass on exactly the shape of a wire frame (30_encoding.md R120). -/
theorem State.ShapeOk.frameShape : frameShape s.rxBytes = .ok () := by
  have hLong := h.long
  refine frameShape_eq_ok_iff.mpr ⟨by rwa [State.rxBytes_length], ⟨?_, ?_⟩, ?_⟩
  · rw [State.byteAt_rxBytes (by omega)]; exact h.sync0
  · rw [State.byteAt_rxBytes (by omega)]; exact h.sync1
  · rw [h.byteAt_len, State.rxBytes_length]; exact h.total

theorem State.ShapeOk.rxBytes_eq : inboundBytes (s.rxbuf.read 3) s.rxBody (frameTrailer s.rxBytes) = s.rxBytes := by
  have hLong := h.long
  rw [← State.byteAt_rxBytes (by omega)]
  exact inboundBytes_of_parts h.frameShape

theorem State.ShapeOk.rxBody_length : s.rxBody.length = (s.rxbuf.read 2).toNat - 3 := by
  have hTotal := h.total
  have hLen := congrArg List.length h.rxBytes_eq
  rw [inboundBytes_length, State.rxBytes_length] at hLen
  omega

theorem State.ShapeOk.rxBody_length_le : s.rxBody.length ≤ 252 := by
  have hLen : (s.rxbuf.read 2).toNat < 256 := (s.rxbuf.read 2).isLt
  rw [h.rxBody_length]
  omega

theorem State.ShapeOk.rxData_eq {k : Nat} (hk : k < s.rxBody.length) : s.rxData k = byteAt s.rxBody k := by
  rw [h.rxBody_length] at hk
  have hTotal := h.total
  have hBytes := s.rxBytes_length
  rw [State.rxBody, frameBody, byteAt_take (by omega), byteAt_drop (by omega), State.byteAt_rxBytes (by omega),
    State.rxData]

/-- The sum DECODE computes is the checksum of the frame's head (R205). -/
theorem State.ShapeOk.checksum_eq : (frameOf (s.rxbuf.read 3 :: s.rxBody)).2 = BitVec.ofNat 16 s.rxSum := by
  have hLong := h.long
  have hHead : frameHead (s.rxbuf.read 3 :: s.rxBody) = s.rxbuf.readBytes (s.rxLen.toNat - 2) := by
    rw [← take_inboundBytes, h.rxBytes_eq, State.rxBytes_length, State.rxBytes, Memory.readBytes_take _ (by omega)]
  apply BitVec.eq_of_toNat_eq
  rw [frameOf_snd, hHead, ck16_toNat, BitVec.toNat_ofNat, State.rxSum, Nat.mod_mod]

theorem State.ShapeOk.trailer_toNat : (frameTrailer s.rxBytes).toNat = s.rxTrailer := by
  have hLong := h.long
  rw [frameTrailer, extract_be_toNat, State.rxBytes_length, State.byteAt_rxBytes (by omega),
    State.byteAt_rxBytes (by omega), State.rxTrailer, show s.rxLen.toNat - 2 + 1 = s.rxLen.toNat - 1 by omega]

theorem State.ShapeOk.trailer_eq_iff :
    frameTrailer s.rxBytes = (frameOf (s.rxbuf.read 3 :: s.rxBody)).2 ↔ s.rxTrailer = s.rxSum := by
  have hSum : s.rxSum < 65536 := Nat.mod_lt _ (by decide)
  rw [← BitVec.toNat_inj, h.trailer_toNat, h.checksum_eq, BitVec.toNat_ofNat, Nat.mod_eq_of_lt hSum]

theorem State.ShapeOk.trailer_eq_dbl_iff :
    frameTrailer s.rxBytes = dbl (frameOf (s.rxbuf.read 3 :: s.rxBody)).2 ↔ s.rxTrailer = 2 * s.rxSum % 65536 := by
  have hSum : s.rxSum < 65536 := Nat.mod_lt _ (by decide)
  rw [← BitVec.toNat_inj, h.trailer_toNat, dbl_toNat, h.checksum_eq, BitVec.toNat_ofNat, Nat.mod_eq_of_lt hSum]

theorem State.ShapeOk.checksumOk_iff : s.ChecksumOk ↔
    frameTrailer s.rxBytes = (frameOf (s.rxbuf.read 3 :: s.rxBody)).2 ∨
      frameTrailer s.rxBytes = dbl (frameOf (s.rxbuf.read 3 :: s.rxBody)).2 := by
  rw [h.trailer_eq_iff, h.trailer_eq_dbl_iff]
  rfl

/-! ### DECODE's verdict, steps 4 to 6 -/

theorem State.ShapeOk.judge_checksum (hSum : ¬ s.ChecksumOk) :
    judge s.rxOvf s.rxBytes = .reject .checksum (some (BitVec.ofNat 16 s.rxSum)) := by
  rw [h.checksumOk_iff, not_or] at hSum
  have hJudge := judge_wrongTrailer _ h.rxBody_length_le _ hSum.1 hSum.2
  rwa [h.rxBytes_eq, h.checksum_eq, ← h.ovf] at hJudge

/-- With the checksum right, steps 5 and 6 decide. -/
theorem State.ShapeOk.judge_eq (hSum : s.ChecksumOk) : judge s.rxOvf s.rxBytes =
    judgeCommand s.rxBytes (BitVec.ofNat 16 s.rxSum) (decide (s.rxTrailer ≠ s.rxSum)) := by
  have hJudge := judge_rightTrailer _ h.rxBody_length_le _ (h.checksumOk_iff.mp hSum)
  rw [h.rxBytes_eq, ← h.ovf, decide_eq_decide.mpr h.trailer_eq_iff.not, h.checksum_eq] at hJudge
  exact hJudge

theorem State.ShapeOk.judge_command (hSum : s.ChecksumOk) (hCmd : ¬ s.CommandOk) :
    judge s.rxOvf s.rxBytes = .reject .cmd (some (BitVec.ofNat 16 s.rxSum)) := by
  rw [h.judge_eq hSum, ← h.rxBytes_eq, judgeCommand_unknown hCmd]

theorem State.ShapeOk.judge_telemetry (hSum : s.ChecksumOk) (hCmd : s.CommandOk) : judge s.rxOvf s.rxBytes =
    if (s.rxbuf.read 2).toNat - 3 < 18 then .reject .dataShort (some (BitVec.ofNat 16 s.rxSum))
    else .valid (BitVec.ofNat 16 s.rxSum) (decide (s.rxTrailer ≠ s.rxSum)) := by
  rw [h.judge_eq hSum, ← h.rxBytes_eq, judgeCommand_inboundBytes _ h.rxBody_length_le _ hCmd, h.rxBody_length]

end

/-- Settles O25. -/
theorem decodeChecksum : Obligations.DecodeChecksum := fun _ hShape hSum =>
  exec_decode_rejected (hShape.judge_checksum hSum)

/-- Settles O26. -/
theorem decodeCommand : Obligations.DecodeCommand := fun _ hShape hSum hCmd =>
  exec_decode_rejected (hShape.judge_command hSum hCmd)

/-- Settles O27. -/
theorem decodeDataShort : Obligations.DecodeDataShort := fun _ hShape hSum hCmd hData =>
  exec_decode_rejected ((hShape.judge_telemetry hSum hCmd).trans (if_pos hData))

/-! ## DECODE repeated on the same RX buffer (41_rx_parser.md R216) -/

theorem SameRx.trans {s t u : State} (h : SameRx s t) (h' : SameRx t u) : SameRx s u :=
  ⟨h'.rxLen.trans h.rxLen, h'.rxOvf.trans h.rxOvf, fun k => (h'.bytes k).trans (h.bytes k)⟩

/-- What holds while the RX buffer stays as a DECODE in s found it: it is that buffer, and the result is still the one
that DECODE gave. -/
structure StillDecoded (s u : State) : Prop where
  rx : SameRx s u
  dec : SameDec s.decodeRx u

theorem stillDecoded_decodeRx_self (s : State) : StillDecoded s s.decodeRx := ⟨s.decodeRx_same.rx, .refl _⟩

/-- A second DECODE ends as the first; where both reject, each keeps the record and what they leave in DEC_CK is the
same. -/
theorem StillDecoded.decodeRx {s u : State} (h : StillDecoded s u) : StillDecoded s u.decodeRx := by
  refine ⟨h.rx.trans u.decodeRx_same.rx, ?_⟩
  have hRecord := h.dec.record
  have hCk := h.dec.decCk
  obtain ⟨r, ck, hs, hu, _⟩ | ⟨R, ck, dbl, hs, hu⟩ := State.decodeRx_alike h.rx.rxBytes.symm h.rx.rxOvf.symm
  · rw [hs] at hRecord hCk ⊢
    rw [hu]
    refine ⟨hRecord, ?_, rfl, rfl, rfl, rfl⟩
    cases ck with
    | none => exact hCk
    | some c => rfl
  · rw [hs, hu]
    exact ⟨rfl, rfl, rfl, rfl, rfl, rfl⟩

theorem eq_decode_of_isDecode {i : Instr} (hRx : i.writesRx = false) (hDec : i.isDecode = true) : i = .decode := by
  cases i with
  | decode => rfl
  | wireTelemetrySingle body ck | wireTelemetryDual body ck => cases hRx
  | _ => cases hDec

theorem StillDecoded.exec {s u v : State} {i : Instr} (h : StillDecoded s u) (hRx : i.writesRx = false)
    (hExec : exec i u = .next v) : StillDecoded s v := by
  obtain ⟨hSameRx, _, _, _, hSameDec, _⟩ := writersOfState i u v hExec
  cases hDec : i.isDecode with
  | true =>
    obtain rfl := eq_decode_of_isDecode hRx hDec
    cases hExec
    exact h.decodeRx
  | false => exact ⟨h.rx.trans (hSameRx hRx), h.dec.trans (hSameDec hDec)⟩

theorem StillDecoded.execAll {s : State} {is : List Instr} (hRx : ∀ i ∈ is, i.writesRx = false) {u v : State}
    (h : StillDecoded s u) (hExec : execAll is u = .next v) : StillDecoded s v := by
  induction is generalizing u with
  | nil => cases hExec; exact h
  | cons i is ih =>
    obtain ⟨hHead, hTail⟩ := List.forall_mem_cons.mp hRx
    cases hStep : Machine.exec i u with
    | next t =>
      rw [execAll_cons hStep] at hExec
      exact ih hTail (h.exec hHead hStep) hExec
    | fault r => cases r
    | refused r => simp only [Machine.execAll, hStep, reduceCtorEq] at hExec

/-- Settles O30: what the first DECODE found and left is kept up to the second, which then ends the same way. -/
theorem decodeRepeats : Obligations.DecodeRepeats := by
  intro s t u v is ht hRx hu hv
  cases ht
  cases hv
  obtain ⟨_, hDec⟩ := ((stillDecoded_decodeRx_self s).execAll hRx hu).decodeRx
  exact ⟨s.decodeRx_same.rx, hDec.record, hDec.decCk, hDec.decDone, hDec.decOk, hDec.decReason, hDec.decCkDbl⟩

/-! ## The doubled trailer (41_rx_parser.md R217) -/

/-- The checksum of a frame that fits is at least its two sync bytes, so its double is another trailer. -/
theorem dbl_checksum_ne {D : List Byte} (h : D.length ≤ 253) : dbl (frameOf D).2 ≠ (frameOf D).2 := by
  have hSum := (checksumNeverWraps D h).2
  have hSync : Config.sync.toNat = 0xFE := rfl
  have hZero : (0 : Half).toNat = 0 := rfl
  simp only [frameHead, byteSum_cons, hSync] at hSum
  rw [Ne, dbl_eq_self_iff, ← BitVec.toNat_inj, hSum, hZero]
  omega

/-- Two frames that differ in their trailers alone, the plain and the doubled one, leave the same record and DEC_CK. -/
theorem rxFrame_doubledTrailer {s : State} (hw : s.rxbuf.wf = true) {c : Byte} {body : List Byte}
    (hc : c = Config.cmdTelemetrySingle ∨ c = Config.cmdTelemetryDual) (hLong : 18 ≤ body.length)
    (hFits : body.length ≤ 252) {t u : State}
    (ht : t = s.rxFrame (inboundBytes c body (frameOf (c :: body)).2))
    (hu : u = s.rxFrame (inboundBytes c body (dbl (frameOf (c :: body)).2))) :
    t.status.decOk = true ∧ u.status.decOk = true ∧ t.status.decCkDbl = false ∧ u.status.decCkDbl = true ∧
      u.record = t.record ∧ u.decCk = t.decCk := by
  rw [rxFrame_validFrame hw hFits hc (.inl rfl) hLong] at ht
  rw [rxFrame_validFrame hw hFits hc (.inr rfl) hLong] at hu
  subst ht hu
  exact ⟨rfl, rfl, decide_eq_false (not_not.mpr rfl),
    decide_eq_true (dbl_checksum_ne (by rw [List.length_cons]; omega)), rfl, rfl⟩

/-- Settles O32. -/
theorem doubledTrailerSameRecord : Obligations.DoubledTrailerSameRecord := fun _ _ hw hLong hFits =>
  ⟨⟨_, _, rfl, rfl, rxFrame_doubledTrailer hw (.inl rfl) hLong hFits rfl rfl⟩,
    ⟨_, _, rfl, rfl, rxFrame_doubledTrailer hw (.inr rfl) hLong hFits rfl rfl⟩⟩

/-! ## Received bytes that are no inbound frame (30_encoding.md R120, R123; 41_rx_parser.md R201 to R206) -/

/-- What DECODE's verdict says of bytes that the inbound wire decoder rejects with e: DEC_CK is computed for an unknown
CMD alone. -/
inductive RejectedAs : FrameError → DecReason → Option Half → Prop where
  | tooShort : RejectedAs .tooShort .short none
  | badSync : RejectedAs .badSync .sync none
  | lenField : RejectedAs .badLength .lenField none
  | lenMismatch : RejectedAs .badLength .lenMismatch none
  | checksum (c : Byte) (ck : Half) : RejectedAs (.badCommand c) .checksum (some ck)
  | command (c : Byte) (ck : Half) : RejectedAs (.badCommand c) .cmd (some ck)

/-- A frame whose CMD is no telemetry code fails at its trailer or at its CMD. -/
theorem judge_unknownCommand {bytes : List Byte} (hShape : frameShape bytes = .ok ())
    (hCmd : ¬ (byteAt bytes 3 = Config.cmdTelemetrySingle ∨ byteAt bytes 3 = Config.cmdTelemetryDual)) :
    ∃ r ck, judge false bytes = .reject r ck ∧ RejectedAs (.badCommand (byteAt bytes 3)) r ck := by
  have hParts := inboundBytes_of_parts hShape
  have hFits : (frameBody bytes).length ≤ 252 := by
    obtain ⟨_, _, hTotal⟩ := frameShape_eq_ok_iff.mp hShape
    have hLen : (byteAt bytes 2).toNat < 256 := (byteAt bytes 2).isLt
    have hBytes := congrArg List.length hParts
    rw [inboundBytes_length] at hBytes
    omega
  by_cases hck : frameTrailer bytes = (frameOf (byteAt bytes 3 :: frameBody bytes)).2 ∨
      frameTrailer bytes = dbl (frameOf (byteAt bytes 3 :: frameBody bytes)).2
  · have hJudge := judge_rightTrailer _ hFits _ hck
    rw [judgeCommand_unknown hCmd, hParts] at hJudge
    exact ⟨_, _, hJudge, .command _ _⟩
  · rw [not_or] at hck
    have hJudge := judge_wrongTrailer _ hFits _ hck.1 hck.2
    rw [hParts] at hJudge
    exact ⟨_, _, hJudge, .checksum _ _⟩

/-- Both validations check the length, the sync bytes and LEN in the same order. -/
theorem judge_of_decodeIn_error {bytes : List Byte} {e : FrameError} (h : decodeIn bytes = .error e) :
    ∃ r ck, judge false bytes = .reject r ck ∧ RejectedAs e r ck := by
  cases hShape : frameShape bytes with
  | ok _ =>
    rw [decodeIn_of_shape hShape] at h
    split_ifs at h with hSingle hDual
    cases h
    exact judge_unknownCommand hShape (not_or.mpr ⟨hSingle, hDual⟩)
  | error e' =>
    rw [decodeIn, hShape] at h
    cases h
    unfold frameShape at hShape
    split_ifs at hShape with hShort hSync hTotal
    · cases hShape
      exact ⟨_, _, judge_short hShort, .tooShort⟩
    · cases hShape
      exact ⟨_, _, judge_sync (.inr (Nat.le_of_not_lt hShort)) hSync, .badSync⟩
    · cases hShape
      obtain ⟨hSync0, hSync1⟩ : byteAt bytes 0 = Config.sync ∧ byteAt bytes 1 = Config.sync := by tauto
      have hLong : false = true ∨ 6 ≤ bytes.length := .inr (Nat.le_of_not_lt hShort)
      obtain hLen | hLen := Nat.lt_or_ge (byteAt bytes 2).toNat 3
      · exact ⟨_, _, judge_lenField hLong hSync0 hSync1 hLen, .lenField⟩
      · exact ⟨_, _, judge_lenMismatch hLong hSync0 hSync1 hLen (.inr hTotal), .lenMismatch⟩

/-- Received bytes that are no inbound frame complete as RXFRAME of them (log entry 8). -/
theorem complete_of_unknownFrame {bytes : List Byte} {e : FrameError} (h : decodeItem (.frameIn bytes) = .error e)
    (s : State) : complete (.frameIn bytes) s = .next (s.ready.rxFrame bytes) := by
  simp only [complete, h]

/-- What RXFRAME leaves in the RX buffer, whether or not the bytes fit (41_rx_parser.md R194). -/
theorem State.rxFrame_rxBytes {s : State} (hw : s.rxbuf.wf = true) (bytes : List Byte) :
    (s.rxFrame bytes).rxBytes = bytes.take 258 ∧ (s.rxFrame bytes).rxOvf = decide (258 < bytes.length) := by
  obtain ⟨hBytes, hOvf, _⟩ := State.rxLoad_spec hw bytes
  have hSame : SameRx (s.rxLoad bytes) (s.rxFrame bytes) := (s.rxLoad bytes).decodeRx_same.rx
  exact ⟨hSame.rxBytes.trans hBytes, hSame.rxOvf.trans hOvf⟩

/-- RXFRAME of bytes that the validation rejects. -/
theorem State.rxFrame_rejected {s : State} (hw : s.rxbuf.wf = true) {bytes : List Byte} {r : DecReason} {ck : Option Half}
    (h : judge false bytes = .reject r ck) :
    Rejected (s.rxLoad bytes) (s.rxFrame bytes) r (ck.getD s.decCk) := by
  rw [State.rxFrame, State.decodeRx_of_reject ((judge_rxLoad hw bytes).trans h), ← (s.rxLoad_pushed bytes).dec.decCk]
  exact State.rejectDecode_rejected _ r ck

/-- BUSY is no part of the buffers or the parameter file. -/
theorem State.ready_same (s : State) : SameTxd s s.ready ∧ SameTx s s.ready ∧ SameParams s s.ready :=
  ⟨⟨rfl, rfl, fun _ => rfl⟩, ⟨rfl, fun _ => rfl, rfl, rfl, rfl⟩, fun _ => rfl⟩

/-- Settles O60. -/
theorem unknownFrameRejected : Obligations.UnknownFrameRejected := by
  intro s bytes e hw hFlight hError hReset hRead
  have hStep : step s = .next (s.ready.rxFrame bytes) :=
    (step_inFlight hFlight hReset hRead).trans (complete_of_unknownFrame hError s)
  obtain ⟨r, ck, hJudge, hAs⟩ := judge_of_decodeIn_error hError
  have hRej := State.rxFrame_rejected (s := s.ready) hw hJudge
  have hFrame := s.ready.rxFrame_frame bytes
  obtain ⟨hTxd, hTx, hParams⟩ := s.ready_same
  obtain ⟨hBytes, hOvf⟩ := State.rxFrame_rxBytes (s := s.ready) hw bytes
  refine ⟨hStep.trans (execAll_expandRxFrame bytes s.ready).symm, _, hStep, hFrame.host.inFlight, hFrame.host.inbox,
    hBytes, by rw [hOvf, decide_eq_true_iff], hRej.decDone, hRej.decOk, hRej.decCkDbl, hRej.badOp,
    hRej.record.trans (s.ready.rxLoad_pushed bytes).dec.record, ?_, ?_, ?_, ?_,
    hTxd.trans (hFrame.txd (by decide)), hTx.trans (hFrame.tx (by decide)), hParams.trans (hFrame.params (by decide))⟩
  · rintro rfl
    cases hAs
    exact ⟨hRej.decReason, hRej.decCk⟩
  · rintro rfl
    cases hAs
    exact ⟨hRej.decReason, hRej.decCk⟩
  · rintro rfl
    cases hAs with
    | lenField => exact ⟨.inl hRej.decReason, hRej.decCk⟩
    | lenMismatch => exact ⟨.inr hRej.decReason, hRej.decCk⟩
  · rintro c rfl
    cases hAs with
    | checksum => exact .inl hRej.decReason
    | command => exact .inr hRej.decReason

/-! ## The record at the read port (10_state.md R41 to R44, R48, R49) -/

theorem RunMode.code_lt (m : RunMode) : m.code < 4 := by cases m <;> decide

theorem Saver.code_lt (b : Saver) : b.code < 4 := by cases b <;> decide

theorem TempUnit.code_eq_bit (u : TempUnit) : u.code = bit (u = .f) := by cases u <;> rfl

theorem Comp.code_lt (c : Comp) : c.code < 4 := by cases c <;> decide

/-- The fields of REC_FLAGS at their bits, the reserved bits 0 (R41). -/
structure Record.FlagFields (r : Record) (w : Half) : Prop where
  valid : w.getLsbD 0 = r.valid
  locked : w.getLsbD 1 = r.locked
  powered : w.getLsbD 2 = r.powered
  unit : w.getLsbD 3 = decide (r.unit = .f)
  runMode : w.extractLsb' 4 2 = BitVec.ofNat 2 r.runMode.code
  saver : w.extractLsb' 6 2 = BitVec.ofNat 2 r.saver.code
  comp : w.extractLsb' 8 2 = BitVec.ofNat 2 r.comp.code
  battPresent : w.getLsbD 10 = r.battPresent
  rightPresent : w.getLsbD 11 = r.rightPresent
  reserved : w.extractLsb' 12 4 = 0

theorem Record.flagsWord_fields (r : Record) : r.FlagFields r.flagsWord := by
  have hValid := bit_lt_two r.valid
  have hLocked := bit_lt_two r.locked
  have hPowered := bit_lt_two r.powered
  have hUnit := r.unit.code_eq_bit
  have hUnitBit := bit_lt_two (decide (r.unit = .f))
  have hMode := r.runMode.code_lt
  have hSaver := r.saver.code_lt
  have hComp := r.comp.code_lt
  have hBatt := bit_lt_two r.battPresent
  have hRight := bit_lt_two r.rightPresent
  exact
    { valid := getLsbD_ofNat_of_digit (by decide) (by omega)
      locked := getLsbD_ofNat_of_digit (by decide) (by omega)
      powered := getLsbD_ofNat_of_digit (by decide) (by omega)
      unit := getLsbD_ofNat_of_digit (by decide) (by omega)
      runMode := extractLsb'_ofNat_of_digits (by decide) (by rw [BitVec.toNat_ofNat]; omega)
      saver := extractLsb'_ofNat_of_digits (by decide) (by rw [BitVec.toNat_ofNat]; omega)
      comp := extractLsb'_ofNat_of_digits (by decide) (by rw [BitVec.toNat_ofNat]; omega)
      battPresent := getLsbD_ofNat_of_digit (by decide) (by omega)
      rightPresent := getLsbD_ofNat_of_digit (by decide) (by omega)
      reserved := extractLsb'_ofNat_eq_zero (by decide) (by omega) }

/-- REC_INFO is CMD in the low byte and the data length in the high one (R42). -/
theorem Record.infoWord_toNat (r : Record) : r.infoWord.toNat = r.cmd.toNat + 256 * r.dlen.toNat := by
  have hCmd : r.cmd.toNat < 256 := r.cmd.isLt
  have hLen : r.dlen.toNat < 256 := r.dlen.isLt
  rw [Record.infoWord, BitVec.toNat_ofNat]
  omega

theorem State.location_recFlags (s : State) : s.location 0x006 = s.record.flagsWord := rfl

theorem State.location_recInfo (s : State) : s.location 0x007 = s.record.infoWord := rfl

/-! ## The codes of a telemetry frame's classifiers (40_primitives.md R167, R171) -/

theorem ofNat_code_runMap (b : Byte) :
    BitVec.ofNat 2 (runMap b).code = if b = 0 then 0 else if b = 1 then 1 else 2 := by
  unfold runMap
  split_ifs <;> rfl

theorem ofNat_code_saverMap (b : Byte) :
    BitVec.ofNat 2 (saverMap b).code = if b = 0 then 0 else if b = 1 then 1 else if b = 2 then 2 else 3 := by
  unfold saverMap
  split_ifs <;> rfl

theorem unitMap_eq_f_iff (b : Byte) : unitMap b = .f ↔ b = 1 := by
  unfold unitMap
  split_ifs with h
  · exact iff_of_true rfl h
  · exact iff_of_false nofun h

theorem ofNat_code_compClass (int frac : Byte) : BitVec.ofNat 2 (compClass (voltDeciOf int frac)).code =
    if 240 ≤ 10 * int.toNat + frac.toNat then 0
    else if 230 < 10 * int.toNat + frac.toNat ∧ 10 * int.toNat + frac.toNat < 239 then 1 else 2 := by
  rw [compClass_voltDeciOf, compClassOf]
  split_ifs <;> rfl

/-! ## The record of a valid frame, zone by zone (41_rx_parser.md R211 to R213) -/

/-- The single-zone field map on the data bytes D (R211). -/
structure Record.SingleZone (r : Record) (D : List Byte) : Prop where
  valid : r.valid = true
  locked : r.locked = boolOf (byteAt D 0x00)
  powered : r.powered = boolOf (byteAt D 0x01)
  runMode : r.runMode = runMap (byteAt D 0x02)
  saver : r.saver = saverMap (byteAt D 0x03)
  leftTarget : r.leftTarget = (byteAt D 0x04).signExtend 16
  tempMax : r.tempMax = (byteAt D 0x05).signExtend 16
  tempMin : r.tempMin = (byteAt D 0x06).signExtend 16
  leftHyst : r.leftHyst = (byteAt D 0x07).signExtend 16
  startDelay : r.startDelay = (byteAt D 0x08).setWidth 16
  unit : r.unit = unitMap (byteAt D 0x09)
  lHot : r.lHot = (byteAt D 0x0A).signExtend 16
  lMid : r.lMid = (byteAt D 0x0B).signExtend 16
  lCold : r.lCold = (byteAt D 0x0C).signExtend 16
  lHalt : r.lHalt = (byteAt D 0x0D).signExtend 16
  leftCurrent : r.leftCurrent = (byteAt D 0x0E).signExtend 16
  battPresent : r.battPresent = battPresentOf (byteAt D 0x0F)
  battPct : r.battPct = battPctOf (byteAt D 0x0F)
  voltInt : r.voltInt = (byteAt D 0x10).setWidth 16
  voltFrac : r.voltFrac = (byteAt D 0x11).setWidth 16
  voltDeci : r.voltDeci = voltDeciOf (byteAt D 0x10) (byteAt D 0x11)
  comp : r.comp = compClass (voltDeciOf (byteAt D 0x10) (byteAt D 0x11))

theorem singleRecord_singleZone (D : List Byte) (c d : Byte) : (singleRecord D c d).SingleZone D := by
  constructor <;> rfl

/-- The right zone adds its own fields and changes none of the others (R212). -/
theorem Record.SingleZone.withRightZone {r : Record} {D : List Byte} (h : r.SingleZone D) (D' : List Byte) :
    (r.withRightZone D').SingleZone D := { h with }

theorem extractRecord_singleZone (D : List Byte) (c d : Byte) : (extractRecord D c d).SingleZone D := by
  unfold extractRecord
  split
  · exact (singleRecord_singleZone D c d).withRightZone D
  · exact singleRecord_singleZone D c d

/-- The registers of the right zone, in address order from 0x016. -/
def Record.rightWords (r : Record) : List Half :=
  [r.rightTarget, r.rHyst, r.rHot, r.rMid, r.rCold, r.rHalt, r.rightCurrent, r.runStatus]

theorem extractRecord_of_dual (D : List Byte) (c : Byte) {d : Byte} (h : 28 ≤ d.toNat) :
    extractRecord D c d = (singleRecord D c d).withRightZone D := if_pos h

theorem extractRecord_of_single (D : List Byte) (c : Byte) {d : Byte} (h : d.toNat < 28) :
    extractRecord D c d = singleRecord D c d := if_neg (Nat.not_le.mpr h)

/-- The last eight record value registers are the right zone's (R43). -/
theorem State.location_right (s : State) {a : BitVec 12} {k : Nat} (ha : a.toNat = 0x016 + k) (hk : k < 8) :
    s.location a = s.record.rightWords.getD k 0 := by
  have hReg : 0x016 + k < 0x020 := by omega
  have hWords : s.registerWords = s.registerWords.take 0x016 ++ s.record.rightWords := rfl
  have hLen : (s.registerWords.take 0x016).length = 0x016 := rfl
  simp only [State.location, ha, hReg, if_true]
  rw [hWords, List.getD_append_right _ _ _ _ (by omega), hLen, Nat.add_sub_cancel_left]

/-! ## A valid DECODE at the read port (41_rx_parser.md R211 to R214) -/

section

variable {s : State} (h : s.ShapeOk) (hSum : s.ChecksumOk) (hCmd : s.CommandOk)
  (hData : 18 ≤ (s.rxbuf.read 2).toNat - 3)
include h

theorem State.ShapeOk.toNat_dataLength : (BitVec.ofNat 8 s.rxBody.length).toNat = (s.rxbuf.read 2).toNat - 3 := by
  have hFits := h.rxBody_length_le
  rw [BitVec.toNat_ofNat, ← h.rxBody_length]
  omega

include hSum hCmd hData

theorem State.ShapeOk.decodeRx_valid : s.decodeRx =
    s.commitRecord (extractRecord s.rxBody (s.rxbuf.read 3) (BitVec.ofNat 8 s.rxBody.length))
      (BitVec.ofNat 16 s.rxSum) (decide (s.rxTrailer ≠ s.rxSum)) := by
  have hJudge := (h.judge_telemetry hSum hCmd).trans (if_neg (Nat.not_lt.mpr hData))
  rw [State.decodeRx_of_valid hJudge, ← h.rxBytes_eq, frameRecord_inboundBytes _ h.rxBody_length_le]

end

theorem toNat_voltDeciOf (int frac : Byte) : (voltDeciOf int frac).toNat = 10 * int.toNat + frac.toNat := by
  rw [voltDeciOf_toNat, BitVec.toNat_setWidth_of_le (by decide), BitVec.toNat_setWidth_of_le (by decide)]

/-- Settles O28: the data bytes are those of the BODY, and each register shows the field that the record has for it. -/
theorem decodeValid : Obligations.DecodeValid := by
  intro s h hSum hCmd hData
  have hFits : 18 ≤ s.rxBody.length := h.rxBody_length ▸ hData
  have hByte : ∀ k, k < 18 → s.rxData k = byteAt s.rxBody k := fun k hk => h.rxData_eq (by omega)
  have hRxSum : s.rxSum < 65536 := Nat.mod_lt _ (by decide)
  have hValid := h.decodeRx_valid hSum hCmd hData
  have hKept := s.decodeRx_same
  have hZone := extractRecord_singleZone s.rxBody (s.rxbuf.read 3) (BitVec.ofNat 8 s.rxBody.length)
  have hRight := extractRecord_rightPresent s.rxBody (s.rxbuf.read 3) (BitVec.ofNat 8 s.rxBody.length)
  have hFlags := (extractRecord s.rxBody (s.rxbuf.read 3) (BitVec.ofNat 8 s.rxBody.length)).flagsWord_fields
  have hInfo := (extractRecord s.rxBody (s.rxbuf.read 3) (BitVec.ofNat 8 s.rxBody.length)).infoWord_toNat
  rw [h.toNat_dataLength] at hRight
  rw [extractRecord_cmd, extractRecord_dlen, h.toNat_dataLength] at hInfo
  rw [hValid] at hKept
  simp (disch := decide) only [hByte]
  refine ⟨_, congrArg Host.Outcome.next hValid, rfl, rfl, rfl, decide_eq_true_iff, rfl, Nat.mod_eq_of_lt hRxSum,
    hKept.rx, hKept.txd, hKept.tx, hKept.params, hKept.host, ?_⟩
  rw [State.location_recFlags, State.location_recInfo, State.commitRecord_record, hFlags.valid, hFlags.locked,
    hFlags.powered, hFlags.unit, hFlags.runMode, hFlags.saver, hFlags.comp, hFlags.battPresent, hFlags.rightPresent,
    hFlags.reserved, hZone.valid, hZone.locked, hZone.powered, hZone.unit, hZone.runMode, hZone.saver, hZone.comp,
    hZone.battPresent]
  exact ⟨rfl, bne_iff_ne, bne_iff_ne, decide_eq_true_iff.trans (unitMap_eq_f_iff _), ofNat_code_runMap _,
    ofNat_code_saverMap _, ofNat_code_compClass _ _, bne_iff_ne, hRight, rfl, hInfo,
    hZone.leftTarget, hZone.tempMax, hZone.tempMin, hZone.leftHyst, hZone.startDelay, hZone.lHot, hZone.lMid,
    hZone.lCold, hZone.lHalt, hZone.leftCurrent, hZone.battPct, hZone.voltInt, hZone.voltFrac,
    (congrArg BitVec.toNat hZone.voltDeci).trans (toNat_voltDeciOf _ _)⟩

/-- Settles O29. -/
theorem decodeRightZone : Obligations.DecodeRightZone := by
  intro s h hSum hCmd hData
  refine ⟨_, congrArg Host.Outcome.next (h.decodeRx_valid hSum hCmd hData), fun hDual => ?_, fun hSingle => ?_⟩
  · have hByte : ∀ k, k < 28 → s.rxData k = byteAt s.rxBody k := fun k hk =>
      h.rxData_eq (by rw [h.rxBody_length]; omega)
    rw [extractRecord_of_dual _ _ (by rwa [h.toNat_dataLength])]
    simp (disch := decide) only [hByte]
    exact ⟨rfl, rfl, rfl, rfl, rfl, rfl, rfl, rfl, rfl⟩
  · rw [extractRecord_of_single _ _ (by rwa [h.toNat_dataLength])]
    refine ⟨rfl, fun a hLow hHigh => ?_⟩
    rw [State.location_right (k := a.toNat - 0x016) _ (by omega) (by omega)]
    exact List.getD_replicate (n := 8) _ (by omega)

end Sys2Proof.Machine

/-! ## Words of the TX framer's requests (30_encoding.md R110, R117) -/

namespace Sys2Proof

theorem decodeRequest_txdClr {w : ReqWord} (h : (opField w).toNat = 0x4) : decodeRequest w = .txdClr := by
  simp only [decodeRequest, h]

theorem decodeRequest_frame {w : ReqWord} (h : (opField w).toNat = 0x6) : decodeRequest w = .frame := by
  simp only [decodeRequest, h]

theorem decodeRequest_bind {w : ReqWord} (h : (opField w).toNat = 0x7) : decodeRequest w = .bind := by
  simp only [decodeRequest, h]

theorem decodeRequest_query {w : ReqWord} (h : (opField w).toNat = 0x8) : decodeRequest w = .query := by
  simp only [decodeRequest, h]

end Sys2Proof

namespace Sys2Proof.Machine

/-! ## The TX framer (42_tx_framer.md R240, R243, R245, R250, R253) -/

/-- Settles O46: TXD.CLR writes the fill count, the flag and BAD_OP alone. -/
theorem txdClrResult : Obligations.TxdClrResult := fun _ s hw =>
  have hSame := s.txdClear_same
  ⟨decodeRequest_txdClr (opField_of_shift hw (by decide)), s.txdClear, rfl, rfl, rfl, fun _ => rfl, rfl,
    hSame.rx, hSame.tx, hSame.params, hSame.dec, hSame.host⟩

theorem State.txdPushByte_of_lt {s : State} (h : s.txdLen.toNat < 253) (b : Byte) : s.txdPushByte b = s.txdAppend b :=
  if_pos h

theorem State.txdPushByte_of_full {s : State} (h : s.txdLen.toNat = 253) (b : Byte) : s.txdPushByte b = s.txdDrop :=
  if_neg h.not_lt

/-- After an overflow of TXD no frame is built (R245). -/
theorem execFrame_of_overflow {s : State} (h : s.txdOvf = true) : execFrame s = .next (s.txFail .txdOverflow) :=
  congrArg Host.Outcome.next (if_pos h)

theorem execFrame_of_noOverflow {s : State} (h : s.txdOvf = false) : execFrame s = .next (s.emit s.txdBytes) :=
  congrArg Host.Outcome.next (if_neg (ne_true_of_eq_false h))

/-- Settles O47, by the two ends of a push; the overflow it leaves at 253 is the one FRAME fails on. -/
theorem txdPushResult : Obligations.TxdPushResult := by
  intro w s hw hInv
  obtain ⟨hSame, hBadOp⟩ := s.txdPushByte_same (w.setWidth 8)
  have hDecode : decodeRequest w = .txdPush (w.setWidth 8) := by
    rw [decodeRequest_txdPush (opField_of_shift hw (by decide)), byteField_eq_setWidth]
  refine ⟨hDecode, _, rfl, hBadOp, fun hlt => ?_, fun hFull => ?_, hSame.rx, hSame.tx, hSame.params, hSame.dec,
    hSame.host⟩
  · rw [State.txdPushByte_of_lt hlt]
    exact ⟨Memory.read_write_same hInv.txdWf _ _, fun k hk => Memory.read_write_ne _ _ hk,
      State.txdAppend_txdLen_toNat hlt _, rfl⟩
  · rw [State.txdPushByte_of_full hFull]
    exact ⟨rfl, rfl, fun _ => rfl, _, execFrame_of_overflow rfl, State.txFail_failed _ _⟩

/-- What emitting a data region leaves: any region whose frame TXLEN can count (R246, R256). -/
theorem State.emit_committed {s : State} (hw : s.txbuf.wf = true) {D : List Byte} (hD : D.length < 507) :
    Committed s (s.emit D) (frameOf D).1 (frameOf D).2 :=
  State.txCommit_committed hw (by rw [frameOf_fst_length]; omega) _

theorem State.txdBytes_of_empty {s : State} (h : s.txdLen = 0) : s.txdBytes = [] := by
  rw [State.txdBytes, h]
  rfl

/-- Settles O48, by the overflow flag. -/
theorem frameResult : Obligations.FrameResult := by
  intro w s hw hInv
  refine ⟨decodeRequest_frame (opField_of_shift hw (by decide)), ?_⟩
  cases hOvf : s.txdOvf with
  | true => exact ⟨_, execFrame_of_overflow hOvf, fun _ => s.txFail_failed _, nofun, nofun⟩
  | false =>
    have hLen : s.txdBytes.length < 507 := by
      rw [State.txdBytes_length]
      exact s.txdLen.isLt.trans (by decide)
    have hCommit := State.emit_committed hInv.txWf hLen
    refine ⟨_, execFrame_of_noOverflow hOvf, nofun, fun _ => hCommit, fun _ hEmpty => ?_⟩
    rw [hCommit.frame, State.txdBytes_of_empty hEmpty]
    decide

/-- Settles O49: each fixed frame fits TXBUF, and is the frame of its command. -/
theorem bindQueryResult : Obligations.BindQueryResult := fun _ s hWf =>
  ⟨fun hw => decodeRequest_bind (opField_of_shift hw (by decide)),
    fun hw => decodeRequest_query (opField_of_shift hw (by decide)),
    ⟨s.txCommit Config.bindFrame Config.bindCk, rfl, State.txCommit_committed hWf (by decide) _, by decide⟩,
    ⟨s.txCommit Config.queryFrame Config.queryCk, rfl, State.txCommit_committed hWf (by decide) _, by decide⟩⟩

end Sys2Proof.Machine

/-! ## Words of the command marshaller's requests (30_encoding.md R110, R113, R114) -/

namespace Sys2Proof

theorem valueField_eq_setWidth (w : ReqWord) : valueField w = w.setWidth 16 :=
  BitVec.setWidth_eq_extractLsb' (by decide) |>.symm

theorem decodeRequest_set {w : ReqWord} (h : (opField w).toNat = 0xB) : decodeRequest w = .set := by
  simp only [decodeRequest, h]

end Sys2Proof

namespace Sys2Proof.Machine

/-! ## TARGET: the 7-byte frame (43_command_marshaller.md R276) -/

/-- The byte of a numeric field reads back, signed, as the clamped value (40_primitives.md R161, R163). -/
theorem s8_numericByte (x : Half) : s8 (numericByte x) = clamp8 x :=
  have hBounds := clampInt_bounds (roundInt Config.tieMode Config.numF (asInt x))
  s8_enc8 hBounds.1 hBounds.2

theorem byteSum_frameHead_pair (c b : Byte) : byteSum (frameHead [c, b]) = 0x200 + c.toNat + b.toNat := by
  calc byteSum (frameHead [c, b]) = 0xFE + (0xFE + (0x04 + (c.toNat + (b.toNat + 0)))) := rfl
    _ = 0x200 + c.toNat + b.toNat := by omega

/-- The checksum of a two-byte data region does not wrap. -/
theorem toNat_checksum_pair (c b : Byte) : (frameOf [c, b]).2.toNat = 0x200 + c.toNat + b.toNat := by
  have hc := c.isLt
  have hb := b.isLt
  rw [frameOf_snd_toNat, byteSum_frameHead_pair]
  omega

theorem frameOf_pair_snd (c b : Byte) : (frameOf [c, b]).2 = BitVec.ofNat 16 (0x200 + c.toNat + b.toNat) := by
  rw [← toNat_checksum_pair, BitVec.ofNat_toNat, BitVec.setWidth_eq]

theorem frameOf_pair_fst (c b : Byte) : (frameOf [c, b]).1 =
    [0xFE, 0xFE, 0x04, c, b, BitVec.ofNat 8 ((0x200 + c.toNat + b.toNat) / 256),
      BitVec.ofNat 8 ((0x200 + c.toNat + b.toNat) % 256)] := by
  rw [frameOf_fst, trailer_eq_digits, toNat_checksum_pair]
  rfl

/-- Settles O50: TARGET emits the two-byte data region of its zone's command and its numeric byte. -/
theorem targetResult : Obligations.TargetResult := by
  intro w s Z hw hWf hZ
  have hDecode : decodeRequest w = .target (zoneField w) (w.setWidth 16) := by
    rw [decodeRequest_target (opField_of_shift hw (by decide)), valueField_eq_setWidth]
  have hZone : zoneCommand (zoneField w) = Z := by
    rw [hZ, zoneField]
    split <;> rfl
  refine ⟨hDecode, s.emit [zoneCommand (zoneField w), numericByte (w.setWidth 16)], _, rfl, s8_numericByte _, ?_⟩
  rw [hZone, ← frameOf_pair_fst, ← frameOf_pair_snd]
  exact State.emit_committed hWf (by simp)

/-! ## SETP: one parameter register written (43_command_marshaller.md R271, 10_state.md R38, R49) -/

/-- The mask of P0 keeps bits 6:0 (10_state.md R38). -/
theorem paramMask_zero (v : Half) : paramMask 0 v = (v.setWidth 7).setWidth 16 := by
  apply BitVec.eq_of_toNat_eq
  rw [paramMask, if_pos rfl, BitVec.toNat_setWidth_of_le (by decide), BitVec.toNat_setWidth, BitVec.toNat_and]
  exact Nat.and_two_pow_sub_one_eq_mod v.toNat 7

theorem paramMask_of_ne {i : BitVec 4} (h : i ≠ 0) (v : Half) : paramMask i v = v := if_neg h

theorem State.param_setParam_same (s : State) (i : BitVec 4) (v : Half) : (s.setParam i v).param i = paramMask i v := by
  rw [s.param_setParam, if_pos rfl]

theorem State.param_setParam_ne (s : State) {i j : BitVec 4} (h : j ≠ i) (v : Half) :
    (s.setParam i v).param j = s.param j := by
  rw [s.param_setParam, if_neg h]

/-- Addresses 0x020 to 0x02F read the parameter file (R49). -/
theorem State.location_param (s : State) (j : BitVec 4) : s.location (0x020 + j.setWidth 12) = s.param j := by
  have hj := j.isLt
  have hAddr : (0x020 + j.setWidth 12 : BitVec 12).toNat = 0x020 + j.toNat := by
    bv_omega
  have hRegs : ¬ 0x020 + j.toNat < 0x020 := by omega
  have hParams : 0x020 + j.toNat < 0x030 := by omega
  simp only [State.location, hAddr, hRegs, hParams, if_true, if_false, Nat.add_sub_cancel_left]
  rw [List.getD_eq_getElem _ _ (by simpa using hj), Vector.getElem_toList]
  rfl

/-- Settles O51, by the read laws of the parameter file. -/
theorem setpResult : Obligations.SetpResult := by
  intro w s hw
  have hDecode : decodeRequest w = .setp (idxField w) (w.setWidth 16) := by
    rw [decodeRequest_setp (opField_of_shift hw (by decide)), valueField_eq_setWidth]
  have hFrame := s.setParam_frame (idxField w) (w.setWidth 16)
  refine ⟨hDecode, s.setParam (idxField w) (w.setWidth 16), rfl, fun hZero => ?_, fun hNe => ?_,
    fun j hj => s.param_setParam_ne hj _, State.location_param _, rfl, hFrame.rx nofun nofun, hFrame.txd nofun,
    hFrame.tx nofun, hFrame.dec nofun nofun, hFrame.host⟩
  · have hIdx : idxField w = 0 := hZero
    rw [hIdx, s.param_setParam_same, paramMask_zero, BitVec.setWidth_setWidth_of_le w (by decide : 7 ≤ 16)]
  · exact (s.param_setParam_same _ _).trans (paramMask_of_ne hNe _)

/-! ## SET: the set frame of P0 to P15 (43_command_marshaller.md R284, R287, R290) -/

theorem State.paramFlag_eq_ite (s : State) (k : Nat) : s.paramFlag k = if (s.param 0).getLsbD k then 1 else 0 := by
  rw [State.paramFlag]
  cases (s.param 0).getLsbD k <;> rfl

/-- A flag byte is a binary digit of P0. -/
theorem State.toNat_paramFlag (s : State) (k : Nat) : (s.paramFlag k).toNat = (s.param 0).toNat / 2 ^ k % 2 := by
  have hBit : bit ((s.param 0).getLsbD k) = (s.param 0).toNat / 2 ^ k % 2 := by
    rw [← Nat.toNat_testBit, BitVec.getLsbD]
    cases (s.param 0).toNat.testBit k <;> rfl
  rw [State.paramFlag, BitVec.toNat_ofNat, hBit]
  omega

/-- BSAVER is the number of its two digits (10_state.md R38). -/
theorem State.paramSaver_eq_flags (s : State) : s.paramSaver.setWidth 8 = s.paramFlag 3 + 2 * s.paramFlag 4 := by
  have hLow := s.toNat_paramFlag 3
  have hHigh := s.toNat_paramFlag 4
  have hSaver : s.paramSaver.toNat = (s.param 0).toNat / 8 % 4 := by
    rw [State.paramSaver, BitVec.extractLsb'_toNat, Nat.shiftRight_eq_div_pow]
  bv_omega

theorem State.startDelayByte_eq_setWidth (s : State) : s.startDelayByte = (s.param 5).setWidth 8 :=
  BitVec.setWidth_eq_extractLsb' (by decide) |>.symm

theorem State.setBody_of_single {s : State} (h : (s.param 0).getLsbD 6 = false) : s.setBody = s.setBodySingle :=
  if_neg (ne_true_of_eq_false h)

theorem State.setBody_of_dual {s : State} (h : (s.param 0).getLsbD 6 = true) :
    s.setBody = s.setBodySingle ++ s.setBodyRight := if_pos h

/-- Battery saver 3 is refused (R284). -/
theorem execSet_of_badSaver {s : State} (h : s.paramSaver = 3) : execSet s = .next (s.txFail .badParam) := by
  rw [execSet, if_pos h]

/-- Settles O52, by the battery saver and then by the zone flag. -/
theorem setResult : Obligations.SetResult := by
  intro w s flag c single dual hw hWf hFlag hC hSingle hDual
  obtain rfl : flag = s.paramFlag := funext fun k => (hFlag k).trans (s.paramFlag_eq_ite k).symm
  obtain rfl : c = s.paramByte := funext hC
  rw [← s.paramSaver_eq_flags, ← s.startDelayByte_eq_setWidth] at hSingle
  have hSolo : single = Config.cmdSet :: s.setBodySingle := hSingle
  have hBoth : dual = Config.cmdSet :: (s.setBodySingle ++ s.setBodyRight) := by rw [hDual, hSolo]; rfl
  refine ⟨decodeRequest_set (opField_of_shift hw (by decide)), ?_⟩
  by_cases hSaver : s.paramSaver = 3
  · exact ⟨_, execSet_of_badSaver hSaver, fun _ => s.txFail_failed _, fun h => absurd hSaver h,
      fun h => absurd hSaver h⟩
  · have hFits : (Config.cmdSet :: s.setBody).length < 507 := by
      rw [List.length_cons]
      exact Nat.succ_lt_succ (s.setBody_length_le.trans_lt (by decide))
    have hCommit := State.emit_committed hWf hFits
    refine ⟨_, execSet_of_saver hSaver, fun h => absurd h hSaver, fun _ hZone => ?_, fun _ hZone => ?_⟩
    · rw [State.setBody_of_single hZone, ← hSolo] at hCommit ⊢
      exact ⟨hCommit, by rw [hSolo]; rfl⟩
    · rw [State.setBody_of_dual hZone, ← hBoth] at hCommit ⊢
      exact ⟨hCommit, by rw [hBoth]; rfl⟩

end Sys2Proof.Machine

/-! ## NOP (44_control.md R300) -/

namespace Sys2Proof

theorem decodeRequest_nop {w : ReqWord} (h : (opField w).toNat = 0x0) : decodeRequest w = .nop := by
  simp only [decodeRequest, h]

end Sys2Proof

namespace Sys2Proof.Machine

theorem exec_nop (s : State) : exec .nop s = .next (s.setBadOp false) := rfl

/-- Settles O17: NOP writes BAD_OP alone, and BAD_OP belongs to no part of the state that the statement compares. -/
theorem nopResult : Obligations.NopResult := fun w s hw =>
  have hDecode : decodeRequest w = .nop := decodeRequest_nop (opField_of_shift hw (by decide))
  have hFrame : FamilyFrame .nop s (s.setBadOp false) := s.setBadOp_frame false (by decide) (by decide)
  ⟨hDecode, s.setBadOp false, exec_nop s, Status.withBadOp_badOp s.status false,
    hFrame.rx (by decide) (by decide), hFrame.txd (by decide), hFrame.tx (by decide), hFrame.params (by decide),
    hFrame.dec (by decide) (by decide), hFrame.host⟩

end Sys2Proof.Machine

/-! ## Every instruction and every step answers (60_exceptions.md R310, R322) -/

namespace Sys2Proof.Machine

/-- Settles O14: each arm of exec is a next state; what a request refuses (R312, R316) is a next state too. -/
theorem execCompletes : Obligations.ExecCompletes := by
  intro i s
  cases i <;> exact ⟨_, rfl⟩

/-- How a step of s may end: in a next state, or in the refusal of the outbound bytes in flight (log entry 8). -/
inductive StepAnswer (s : State) : Host.Outcome State Fault Refusal → Prop where
  | next (t : State) : StepAnswer s (.next t)
  | refused (bytes : List Byte) (e : FrameError) (hFlight : s.inFlight = some (.frameOut bytes))
      (hError : decodeOut bytes = .error e) : StepAnswer s (.refused (.notOutboundFrame e))

theorem complete_of_badOutboundFrame {bytes : List Byte} {e : FrameError}
    (h : decodeItem (.frameOut bytes) = .error e) (s : State) :
    complete (.frameOut bytes) s = .refused (.notOutboundFrame e) := by
  simp only [complete, h]

/-- The decoder rejects no request word, and received bytes that it rejects still load and decode. -/
theorem complete_answer {s : State} {it : Item} (hFlight : s.inFlight = some it) : StepAnswer s (complete it s) := by
  cases hDecode : decodeItem it with
  | ok i =>
    obtain ⟨t, hExec⟩ := execCompletes i s.ready
    rw [complete_of_decoded hDecode, hExec]
    exact .next t
  | error e =>
    cases it with
    | request w => cases hDecode
    | frameIn bytes =>
      rw [complete_of_unknownFrame hDecode]
      exact .next _
    | frameOut bytes =>
      rw [complete_of_badOutboundFrame hDecode]
      exact .refused bytes e hFlight hDecode

theorem completeOr_answer (s idle : State) : StepAnswer s (completeOr s idle) := by
  unfold completeOr
  split
  · next hFlight => exact complete_answer hFlight
  · exact .next idle

/-- The host's next action decides: rst and a read act at once, anything else lets the item in flight complete. -/
theorem step_answer (s : State) : StepAnswer s (step s) := by
  unfold step stepBody
  split
  · exact .next _
  · exact .next _
  · exact completeOr_answer s _
  · exact completeOr_answer s _
  · exact completeOr_answer s s

/-- Settles O15. -/
theorem stepStopsOnlyOnBadOutboundFrame : Obligations.StepStopsOnlyOnBadOutboundFrame := by
  intro s
  have hAnswer := step_answer s
  generalize step s = o at hAnswer ⊢
  cases hAnswer with
  | next t => exact .inl ⟨t, rfl⟩
  | refused bytes e hFlight hError => exact .inr ⟨bytes, e, hFlight, hError, rfl⟩

end Sys2Proof.Machine

/-! ## The reserved op codes (44_control.md R303, 60_exceptions.md R318) -/

namespace Sys2Proof

theorem decodeRequest_reservedC {w : ReqWord} (h : (opField w).toNat = 0xC) : decodeRequest w = .reservedC := by
  simp only [decodeRequest, h]

theorem decodeRequest_reservedD {w : ReqWord} (h : (opField w).toNat = 0xD) : decodeRequest w = .reservedD := by
  simp only [decodeRequest, h]

theorem decodeRequest_reservedE {w : ReqWord} (h : (opField w).toNat = 0xE) : decodeRequest w = .reservedE := by
  simp only [decodeRequest, h]

theorem decodeRequest_reservedF {w : ReqWord} (h : (opField w).toNat = 0xF) : decodeRequest w = .reservedF := by
  simp only [decodeRequest, h]

end Sys2Proof

namespace Sys2Proof.Machine

theorem exec_reserved {i : Instr} (hi : i.isReserved = true) (s : State) : exec i s = .next (s.setBadOp true) := by
  cases i with
  | reservedC | reservedD | reservedE | reservedF => rfl
  | _ => cases hi

/-- Settles O18: a reserved op code writes BAD_OP alone, and BAD_OP belongs to no part of the state that the statement
compares. -/
theorem reservedResult : Obligations.ReservedResult := by
  refine ⟨fun w => ⟨fun hw => ?_, fun hw => ?_, fun hw => ?_, fun hw => ?_⟩, fun i s hi => ?_⟩
  · exact decodeRequest_reservedC (opField_of_shift hw (by decide))
  · exact decodeRequest_reservedD (opField_of_shift hw (by decide))
  · exact decodeRequest_reservedE (opField_of_shift hw (by decide))
  · exact decodeRequest_reservedF (opField_of_shift hw (by decide))
  · have hAll : ∀ i ∈ [Instr.reservedC, .reservedD, .reservedE, .reservedF], i.isReserved = true := by decide
    have hFrame : FamilyFrame .reserved s (s.setBadOp true) := s.setBadOp_frame true (by decide) (by decide)
    exact ⟨s.setBadOp true, exec_reserved (hAll i hi) s, Status.withBadOp_badOp s.status true,
      hFrame.rx (by decide) (by decide), hFrame.txd (by decide), hFrame.tx (by decide), hFrame.params (by decide),
      hFrame.dec (by decide) (by decide), hFrame.host⟩

end Sys2Proof.Machine

/-! ## The family of a request word, by its OP (30_encoding.md R117, 10_state.md R50) -/

namespace Sys2Proof

/-- The family of the request with this OP. -/
def familyOfOp (op : Nat) : Family :=
  if op = 0x0 then .nop else if op < 0x3 then .rxBuffer else if op = 0x3 then .decode else if op < 0x6 then .txdBuffer
  else if op = 0xA then .params else if op < 0xC then .tx else .reserved

section

variable (op : Nat)

theorem familyOfOp_eq_decode_iff : familyOfOp op = .decode ↔ op = 0x3 := by
  unfold familyOfOp
  split_ifs <;> simp <;> omega

theorem familyOfOp_eq_tx_iff : familyOfOp op = .tx ↔ op ∈ [0x6, 0x7, 0x8, 0x9, 0xB] := by
  unfold familyOfOp
  split_ifs <;> simp <;> omega

theorem familyOfOp_eq_reserved_iff : familyOfOp op = .reserved ↔ 0xC ≤ op := by
  unfold familyOfOp
  split_ifs <;> simp <;> omega

/-- No request is an inbound frame. -/
theorem familyOfOp_ne_inbound : familyOfOp op ≠ .inbound := by
  unfold familyOfOp
  split_ifs <;> decide

end

theorem decodeRequest_family (w : ReqWord) : (decodeRequest w).family = familyOfOp (w >>> 28).toNat := by
  rw [toNat_shiftRight_op]
  unfold decodeRequest
  split
  case h_16 =>
    have hReserved : 0xC ≤ (opField w).toNat := by
      simp only [imp_false] at *
      omega
    exact ((familyOfOp_eq_reserved_iff _).mpr hReserved).symm
  all_goals
    next hw =>
      rw [hw]
      rfl

end Sys2Proof

/-! ## What each family of instructions writes into STATUS (60_exceptions.md R320) -/

namespace Sys2Proof.Machine

/-- How an instruction of family f takes STATUS from st to st'. BAD_OP is always written; a DECODE, which an inbound frame
ends in, writes DEC_* consistently, a TX request TX_*, and the other families write nothing else. -/
inductive StatusWritten (f : Family) (st : Status) : Status → Prop where
  | badOp (hDec : f ≠ .decode) (hIn : f ≠ .inbound) (hTx : f ≠ .tx) :
      StatusWritten f st (st.withBadOp (decide (f = .reserved)))
  | decode (hf : f = .decode ∨ f = .inbound) {ok : Bool} {r : DecReason} {dbl : Bool} (hr : ok = true ↔ r = .none)
      (hDbl : dbl = true → ok = true) : StatusWritten f st (st.afterDecode ok r dbl)
  | tx (hf : f = .tx) {err : Bool} {c : TxCause} (hc : err = true ↔ c ≠ .none) :
      StatusWritten f st (st.afterTx err c)

section

variable {f : Family} {st st' : Status} (h : StatusWritten f st st')
include h

theorem StatusWritten.badOp_iff : st'.badOp = true ↔ f = .reserved := by
  cases h with
  | badOp => rw [Status.withBadOp_badOp, decide_eq_true_iff]
  | decode hf => rcases hf with rfl | rfl <;> simp
  | tx hf => simp [hf]

theorem StatusWritten.decoded (hf : f = .decode) :
    st'.decDone = true ∧ (st'.decOk = true ↔ st'.decReason = .none) ∧ (st'.decCkDbl = true → st'.decOk = true) := by
  cases h with
  | badOp hDec => exact absurd hf hDec
  | decode _ hr hDbl => exact ⟨rfl, hr, hDbl⟩
  | tx hTx => simp [hf] at hTx

theorem StatusWritten.txErr_iff (hf : f = .tx) : st'.txErr = true ↔ st'.txCause ≠ .none := by
  cases h with
  | badOp _ _ hTx => exact absurd hf hTx
  | decode hDec => simp [hf] at hDec
  | tx _ hc => exact hc

end

/-! ### The shared operations -/

theorem State.rxPushByte_status (s : State) (b : Byte) : (s.rxPushByte b).status = s.status.withBadOp false := by
  obtain ⟨_, h⟩ | ⟨_, h⟩ := s.rxPushByte_cases b <;> rw [h] <;> rfl

theorem State.txdPushByte_status (s : State) (b : Byte) : (s.txdPushByte b).status = s.status.withBadOp false := by
  obtain ⟨_, h⟩ | ⟨_, h⟩ := s.txdPushByte_cases b <;> rw [h] <;> rfl

theorem State.rxLoad_status (s : State) (bytes : List Byte) : (s.rxLoad bytes).status = s.status.withBadOp false :=
  List.foldlRecOn bytes State.rxPushByte (motive := fun t => t.status = s.status.withBadOp false) rfl
    fun t ht b _ => by rw [t.rxPushByte_status, ht]; rfl

/-- A rejected DECODE has a reason and no doubled checksum, a valid one reason NONE (41_rx_parser.md R214, R215). -/
theorem State.decodeRx_afterDecode (s : State) : ∃ ok r dbl, s.decodeRx.status = s.status.afterDecode ok r dbl ∧
    (ok = true ↔ r = .none) ∧ (dbl = true → ok = true) := by
  obtain ⟨r, ck, hJudge, h⟩ | ⟨ck, dbl, _, h⟩ := s.decodeRx_cases <;> rw [h]
  · exact ⟨false, r, false, rfl, iff_of_false nofun (judge_reject_ne_none hJudge), id⟩
  · exact ⟨true, .none, dbl, rfl, iff_of_true rfl rfl, fun _ => rfl⟩

theorem State.decodeRx_statusWritten (s : State) : StatusWritten .decode s.status s.decodeRx.status := by
  obtain ⟨ok, r, dbl, h, hr, hDbl⟩ := s.decodeRx_afterDecode
  rw [h]
  exact .decode (.inl rfl) hr hDbl

/-- The pushes of an inbound frame write BAD_OP alone, which its DECODE writes again. -/
theorem State.rxFrame_statusWritten (s : State) (bytes : List Byte) :
    StatusWritten .inbound s.status (s.rxFrame bytes).status := by
  obtain ⟨ok, r, dbl, h, hr, hDbl⟩ := (s.rxLoad bytes).decodeRx_afterDecode
  rw [State.rxFrame, h, State.rxLoad_status]
  exact .decode (st := s.status) (.inr rfl) hr hDbl

/-- A TX commit has cause NONE (42_tx_framer.md R256). -/
theorem State.txCommit_statusWritten (s : State) (F : List Byte) (ck : Half) :
    StatusWritten .tx s.status (s.txCommit F ck).status := .tx rfl (by decide)

/-- A failed TX request names its cause (R257). -/
theorem State.txFail_statusWritten (s : State) {c : TxCause} (hc : c ≠ .none) :
    StatusWritten .tx s.status (s.txFail c).status := .tx rfl (iff_of_true rfl hc)

theorem State.failOrEmit_statusWritten (s : State) (p : Prop) [Decidable p] {c : TxCause} (hc : c ≠ .none)
    (D : List Byte) : StatusWritten .tx s.status (if p then s.txFail c else s.emit D).status := by
  split
  · exact s.txFail_statusWritten hc
  · exact s.txCommit_statusWritten _ _

theorem State.emitRegion_statusWritten (s : State) (D : List Byte) :
    StatusWritten .tx s.status (s.emitRegion D).status := by
  obtain ⟨_, h⟩ | ⟨_, h⟩ := s.emitRegion_cases D <;> rw [h]
  · exact s.txCommit_statusWritten _ _
  · exact s.txFail_statusWritten (by decide)

/-! ### The instructions -/

/-- Every instruction writes STATUS as its family does. -/
theorem exec_statusWritten {i : Instr} {s t : State} (h : exec i s = .next t) :
    StatusWritten i.family s.status t.status := by
  cases i with
  | nop | rxClr | txdClr | setp | reservedC | reservedD | reservedE | reservedF =>
    cases h
    exact .badOp nofun nofun nofun
  | rxPush b =>
    cases h
    rw [s.rxPushByte_status]
    exact .badOp nofun nofun nofun
  | txdPush b =>
    cases h
    rw [s.txdPushByte_status]
    exact .badOp nofun nofun nofun
  | decode => cases h; exact s.decodeRx_statusWritten
  | wireTelemetrySingle body ck | wireTelemetryDual body ck => cases h; exact s.rxFrame_statusWritten _
  | frame | set => cases h; exact s.failOrEmit_statusWritten _ (by decide) _
  | bind | query | target => cases h; exact s.txCommit_statusWritten _ _
  | wireBind | wireQuery | wireSet | wireTargetLeft | wireTargetRight => cases h; exact s.emitRegion_statusWritten _

/-- Settles O55: what a request writes into STATUS and what it keeps, by the family of its OP. -/
theorem statusDiscipline : Obligations.StatusDiscipline := by
  intro w s t h
  have hWritten := exec_statusWritten h
  have hFrame := exec_familyFrame h
  rw [decodeRequest_family] at hWritten hFrame
  refine ⟨hWritten.badOp_iff.trans (familyOfOp_eq_reserved_iff _),
    fun hOp => hWritten.decoded ((familyOfOp_eq_decode_iff _).mpr hOp), fun hOp => ?_,
    fun hOp => hWritten.txErr_iff ((familyOfOp_eq_tx_iff _).mpr hOp), fun hOp => ?_⟩
  · have hDec := hFrame.dec (mt (familyOfOp_eq_decode_iff _).mp hOp) (familyOfOp_ne_inbound _)
    exact ⟨hDec.decDone, hDec.decOk, hDec.decReason, hDec.decCkDbl⟩
  · have hTx := hFrame.tx (mt (familyOfOp_eq_tx_iff _).mp hOp)
    exact ⟨hTx.txErr, hTx.txCause⟩

end Sys2Proof.Machine

/-! ## The host's side apart from the CORE: no instruction reads or writes it (10_state.md R31 to R33) -/

namespace Sys2Proof.Machine

/-- The CORE of s, with BUSY and the host's side of h. -/
def State.withHostOf (s h : State) : State :=
  { s with inFlight := h.inFlight, inbox := h.inbox, rdAddr := h.rdAddr, draws := h.draws }

theorem State.withHostOf_sameCore (s h : State) : SameCore s (s.withHostOf h) where
  rx := ⟨rfl, rfl, fun _ => rfl⟩
  txd := ⟨rfl, rfl, fun _ => rfl⟩
  tx := ⟨rfl, fun _ => rfl, rfl, rfl, rfl⟩
  params _ := rfl
  dec := ⟨rfl, rfl, rfl, rfl, rfl, rfl⟩
  badOp := rfl

theorem State.accept_sameCore (s : State) (it : Item) (rest : List HostAction) : SameCore s (s.accept it rest) :=
  s.withHostOf_sameCore (s.accept it rest)

theorem State.assertReset_sameCore (s : State) (rest : List HostAction) : SameCore State.reset (s.assertReset rest) :=
  State.reset.withHostOf_sameCore (s.assertReset rest)

theorem State.driveRead_withHostOf (s h : State) (a : BitVec 12) (rest : List HostAction) :
    (s.driveRead a rest).withHostOf h = s.withHostOf h := rfl

theorem State.ready_withHostOf (s h : State) : (s.withHostOf h).ready = s.withHostOf h.ready := rfl

theorem State.rxPushByte_withHostOf (s h : State) (b : Byte) :
    (s.withHostOf h).rxPushByte b = (s.rxPushByte b).withHostOf h :=
  (apply_ite (State.withHostOf · h) _ (s.rxAppend b) s.rxDrop).symm

theorem State.txdPushByte_withHostOf (s h : State) (b : Byte) :
    (s.withHostOf h).txdPushByte b = (s.txdPushByte b).withHostOf h :=
  (apply_ite (State.withHostOf · h) _ (s.txdAppend b) s.txdDrop).symm

theorem State.rxLoad_withHostOf (s h : State) (bytes : List Byte) :
    (s.withHostOf h).rxLoad bytes = (s.rxLoad bytes).withHostOf h :=
  List.foldl_hom (init := s.rxClear) (State.withHostOf · h) fun t b => t.rxPushByte_withHostOf h b

theorem State.decodeRx_withHostOf (s h : State) : (s.withHostOf h).decodeRx = s.decodeRx.withHostOf h := by
  obtain ⟨r, ck, hs, hs', _⟩ | ⟨R, ck, dbl, hs, hs'⟩ := State.decodeRx_alike (s := s) (s' := s.withHostOf h) rfl rfl <;>
    rw [hs, hs'] <;> rfl

theorem State.rxFrame_withHostOf (s h : State) (bytes : List Byte) :
    (s.withHostOf h).rxFrame bytes = (s.rxFrame bytes).withHostOf h := by
  rw [State.rxFrame, s.rxLoad_withHostOf, State.decodeRx_withHostOf, State.rxFrame]

theorem State.withHostOf_txInputs (s h : State) : SameTxInputs s (s.withHostOf h) := ⟨rfl, rfl, fun _ => rfl⟩

theorem TxAlike.withHostOf {s h t : State} {o : Host.Outcome State Fault Refusal}
    (hAlike : TxAlike s (s.withHostOf h) (.next t) o) : o = .next (t.withHostOf h) := by
  cases hAlike <;> rfl

/-- No instruction reads BUSY or the host's side, nor writes it. -/
theorem exec_withHostOf {i : Instr} {s t : State} (ht : exec i s = .next t) (h : State) :
    exec i (s.withHostOf h) = .next (t.withHostOf h) := by
  by_cases hTx : i.isTx = true
  · have hAlike := exec_txAlike hTx (s.withHostOf_txInputs h)
    rw [ht] at hAlike
    exact hAlike.withHostOf
  cases i with
  | nop | rxClr | txdClr | setp | reservedC | reservedD | reservedE | reservedF => cases ht; rfl
  | rxPush b => cases ht; exact congrArg Host.Outcome.next (s.rxPushByte_withHostOf h b)
  | txdPush b => cases ht; exact congrArg Host.Outcome.next (s.txdPushByte_withHostOf h b)
  | decode => cases ht; exact congrArg Host.Outcome.next (s.decodeRx_withHostOf h)
  | wireTelemetrySingle | wireTelemetryDual => cases ht; exact congrArg Host.Outcome.next (s.rxFrame_withHostOf h _)
  | frame | bind | query | target | set | wireBind | wireQuery | wireSet | wireTargetLeft | wireTargetRight =>
    exact absurd rfl hTx

end Sys2Proof.Machine

/-! ## rst, an offer held while BUSY, reads before a wait (70_reset_and_hazards.md R350, R361, R370) -/

namespace Sys2Proof.Machine

theorem step_reset {s : State} {rest : List HostAction} (hInbox : s.inbox = .reset :: rest) :
    step s = .next (s.assertReset rest) := by
  simp only [step, stepBody, hInbox]

/-- Settles O12. -/
theorem rstTotal : Obligations.RstTotal := fun s rest hInbox =>
  ⟨s.assertReset rest, step_reset hInbox, s.assertReset_sameCore rest, rfl, rfl, rfl⟩

/-- A ready CORE accepts what is offered (R361). -/
theorem step_offer_of_ready {s : State} {it : Item} {rest : List HostAction} (hFlight : s.inFlight = none)
    (hInbox : s.inbox = .offer it :: rest) : step s = .next (s.accept it rest) := by
  simp only [step, stepBody, hInbox, completeOr, hFlight]

theorem State.reqReady_of_none {s : State} (h : s.inFlight = none) : s.reqReady = true := by
  simp [State.reqReady, State.busy, h]

theorem State.reqReady_of_some {s : State} {it : Item} (h : s.inFlight = some it) : s.reqReady = false := by
  simp [State.reqReady, State.busy, h]

/-- Settles O11: the first step completes the request in flight and leaves the host's side alone, so the second finds the
offer and a ready CORE. -/
theorem offerWaitsWhileBusy : Obligations.OfferWaitsWhileBusy := by
  intro s w it rest hFlight hInbox
  obtain ⟨t, hExec⟩ := execCompletes (decodeRequest w) s.ready
  have hStep : step s = .next t :=
    (stepRunsDecoded s _ _ hFlight rfl (by simp [hInbox]) (by simp [hInbox])).trans hExec
  have hHost : SameHost s.ready t := (exec_familyFrame hExec).host
  have hOffer : t.inbox = .offer it :: rest := hHost.inbox.trans hInbox
  exact ⟨State.reqReady_of_some hFlight, t, t.accept it rest, hStep, hExec, State.reqReady_of_none hHost.inFlight, hOffer,
    step_offer_of_ready hHost.inFlight hOffer, rfl, rfl, rfl, t.accept_sameCore it rest⟩

/-- A run of one step and more. -/
theorem run_succ_of_step {s t : State} (h : step s = .next t) (k : Nat) :
    Host.Core.run Sys2Proof.core (k + 1) s = Host.Core.run Sys2Proof.core k t := by
  have hCore : Sys2Proof.core.step s = .next t := h
  simp only [Host.Core.run, hCore]

/-- Reads take one step each, and change the host's side alone: what is in flight stays there (20_memory.md R88). -/
theorem run_reads {s : State} {reads : List (BitVec 12)} {rest : List HostAction}
    (hInbox : s.inbox = reads.map .read ++ rest) : ∃ h : State, h.inFlight = s.inFlight ∧ h.inbox = rest ∧
      ∀ k, Host.Core.run Sys2Proof.core (reads.length + k) s = Host.Core.run Sys2Proof.core k (s.withHostOf h) := by
  induction reads generalizing s with
  | nil => exact ⟨s, rfl, hInbox, fun k => by rw [List.length_nil, Nat.zero_add]; rfl⟩
  | cons a reads ih =>
    have hStep : step s = .next (s.driveRead a (reads.map .read ++ rest)) := step_read hInbox
    obtain ⟨h, hFlight, hRest, hRun⟩ := ih (s := s.driveRead a (reads.map .read ++ rest)) rfl
    refine ⟨h, hFlight, hRest, fun k => ?_⟩
    rw [List.length_cons, Nat.add_right_comm, run_succ_of_step hStep, hRun, State.driveRead_withHostOf]

/-- Settles O16: the reads leave the CORE as it was, and completing the request does to it what exec does to s. -/
theorem requestCompletes : Obligations.RequestCompletes := by
  intro s w reads rest hFlight hInbox
  obtain ⟨h, hBusy, hWait, hRun⟩ := run_reads hInbox
  obtain ⟨u, hExec⟩ := execCompletes (decodeRequest w) s
  have hHead : (s.withHostOf h).inbox = .awaitReady :: rest := hWait
  have hStep : step (s.withHostOf h) = .next (u.withHostOf h.ready) :=
    calc step (s.withHostOf h) = exec (decodeRequest w) (s.withHostOf h).ready :=
          stepRunsDecoded _ _ _ (hBusy.trans hFlight) rfl (by simp [hHead]) (by simp [hHead])
      _ = exec (decodeRequest w) (s.withHostOf h.ready) := by rw [State.ready_withHostOf]
      _ = .next (u.withHostOf h.ready) := exec_withHostOf hExec h.ready
  exact ⟨u.withHostOf h.ready, u, (hRun 1).trans (run_succ_of_step hStep 0), rfl, hWait, hExec, u.withHostOf_sameCore _⟩

end Sys2Proof.Machine

/-! ## Bytes pushed after a valid frame (70_reset_and_hazards.md R362) -/

namespace Sys2Proof.Machine

/-- A buffer longer than the valid frame it begins with is rejected: LEN names the frame's length (41_rx_parser.md
R204). -/
theorem ValidFrame.judge_append {B : List Byte} {ck : Half} {dbl : Bool} (h : ValidFrame false B ck dbl)
    {bytes : List Byte} (hMore : bytes ≠ []) : judge false (B ++ bytes) = .reject .lenMismatch none := by
  have hLength := h.length
  have hData := h.data
  have hPos : 0 < bytes.length := List.length_pos_of_ne_nil hMore
  have hPrefix {k : Nat} (hk : k < 3) : byteAt (B ++ bytes) k = byteAt B k := byteAt_append_left (by omega)
  apply judge_lenMismatch
  · exact .inr (by rw [List.length_append]; omega)
  · rw [hPrefix (by decide), h.sync0]
  · rw [hPrefix (by decide), h.sync1]
  · rw [hPrefix (by decide)]; omega
  · exact .inr (by rw [hPrefix (by decide), List.length_append]; omega)

/-- DECODE's verdict after pushes is the one on all the bytes, those an overflow dropped among them (R194). -/
theorem State.judge_foldl_rxPushByte {s : State} (h : s.Inv) (hOvf : s.rxOvf = false) (bytes : List Byte) :
    judge (bytes.foldl State.rxPushByte s).rxOvf (bytes.foldl State.rxPushByte s).rxBytes =
      judge false (s.rxBytes ++ bytes) := by
  obtain ⟨hBytes, hFull, _⟩ := State.foldl_rxPushByte h.rxWf h.rxLen bytes
  rw [hBytes, hFull, hOvf, Bool.false_or, ← judge_take, List.length_append, State.rxBytes_length]

theorem State.decodeRx_validFrame {s : State} (h : s.decodeRx.status.decOk = true) :
    ∃ ck dbl, ValidFrame s.rxOvf s.rxBytes ck dbl := by
  obtain ⟨r, ck, _, hReject⟩ | ⟨ck, dbl, hJudge, _⟩ := s.decodeRx_cases
  · rw [hReject] at h
    cases h
  · exact ⟨ck, dbl, judge_valid hJudge⟩

/-- Settles O35: the buffer still begins with the decoded frame, and is longer than it. -/
theorem staleRxNeverDecodes : Obligations.StaleRxNeverDecodes := by
  intro s t u bytes hInv hDecode hOk hMore hRun
  obtain rfl : s.decodeRx = t := Host.Outcome.next.inj hDecode
  obtain ⟨ck, dbl, hValid⟩ := State.decodeRx_validFrame hOk
  have hSame : SameRx s s.decodeRx := s.decodeRx_same.rx
  have hOvf : s.decodeRx.rxOvf = false := hSame.rxOvf.trans hValid.ovf
  rw [hValid.ovf, ← hSame.rxBytes] at hValid
  have hJudge := (State.judge_foldl_rxPushByte hInv.decodeRx hOvf bytes).trans (hValid.judge_append hMore)
  rw [execAll_rxPush] at hRun
  obtain rfl : (bytes.foldl State.rxPushByte s.decodeRx).decodeRx = u := Host.Outcome.next.inj hRun
  rw [State.decodeRx_of_reject hJudge]
  exact ⟨rfl, rfl, (s.decodeRx.foldl_pushed bytes).dec.record⟩

end Sys2Proof.Machine

/-! ## What the reset state shows and does (70_reset_and_hazards.md R351, 95_test_vectors.md V16) -/

namespace Sys2Proof.Machine

theorem State.location_register (s : State) {a : BitVec 12} (h : a.toNat < 0x020) :
    s.location a = s.registerWords.getD a.toNat 0 := if_pos h

theorem State.reset_registerWords : State.reset.registerWords = List.replicate 0x01E 0 := rfl

theorem State.reset_location (a : BitVec 12) : State.reset.location a = 0 := by
  by_cases hReg : a.toNat < 0x020
  · rw [State.location_register _ hReg, State.reset_registerWords, List.getD_eq_getElem?_getD,
      List.getElem?_getD_replicate_default_eq]
  by_cases hParam : a.toNat < 0x030
  · have ha : a = 0x020 + (a.setWidth 4).setWidth 12 := by bv_omega
    rw [ha, State.location_param, State.reset_param]
  by_cases hWindow : 0x400 ≤ a.toNat ∧ a.toNat < 0xA00
  · obtain ⟨hLow, hHigh⟩ := hWindow
    exact State.location_of_emptyBuffers rfl rfl rfl hLow hHigh
  · exact State.location_of_reserved _ (by unfold reservedAddr; omega)

theorem State.reset_frame : frameOf (Config.cmdSet :: State.reset.setBody) =
    ([0xFE, 0xFE, 0x11, 0x02, 0, 0, 0, 0, 0, 0, 0, 0, 0, 0, 0, 0, 0, 0, 0x02, 0x0F], 0x020F) := by decide

/-- Settles O2. -/
theorem resetReadsZero : Obligations.ResetReadsZero := by
  have hShort : judge State.reset.rxOvf State.reset.rxBytes = .reject .short none := judge_short (by decide)
  refine ⟨fun a => ?_, exec_decode_rejected hShort, _, execSet_of_saver (by decide), ?_⟩
  · exact (State.readPort_of_ready rfl a).trans (State.reset_location a)
  · have hCommit := State.emit_committed (s := State.reset) rfl (D := Config.cmdSet :: State.reset.setBody) (by decide)
    rwa [State.reset_frame] at hCommit

end Sys2Proof.Machine

/-! ## The two tie rules off exact halves (93_implementation_defined.md I3, 90_conflicts.md C4)

Both rules round to a nearest integer, and an operand off the exact halves has only one. -/

namespace Sys2Proof.Machine

/-- r units of 2^nf are no more than half a unit from v: NearestAway without its tie clause. -/
def Nearest (nf : Nat) (v r : Int) : Prop := 2 * (r * 2 ^ nf - v).natAbs ≤ 2 ^ nf

theorem nearest_iff {nf : Nat} {v r : Int} :
    Nearest nf v r ↔ 2 * v ≤ 2 * (r * 2 ^ nf) + 2 ^ nf ∧ 2 * (r * 2 ^ nf) ≤ 2 * v + 2 ^ nf := by
  have hCast : ((2 ^ nf : Nat) : Int) = 2 ^ nf := by push_cast; rfl
  unfold Nearest
  omega

/-- Of two different nearest integers the lower one lies exactly half a unit below the operand. -/
theorem Nearest.le_of_not_half {nf : Nat} {v r r' : Int} (hHalf : 2 * (v % 2 ^ nf) ≠ 2 ^ nf)
    (h : Nearest nf v r) (h' : Nearest nf v r') : r' ≤ r := by
  by_contra! hLt
  obtain ⟨hAbove, _⟩ := nearest_iff.mp h
  obtain ⟨_, hBelow'⟩ := nearest_iff.mp h'
  have hPos : (0 : Int) < 2 ^ nf := by positivity
  have hUnit : (r + 1) * 2 ^ nf ≤ r' * 2 ^ nf := mul_le_mul_of_nonneg_right hLt hPos.le
  rw [add_one_mul] at hUnit
  have hRest : v % 2 ^ nf = v - r * 2 ^ nf := by
    rw [← Int.sub_mul_emod_self_right v r, Int.emod_eq_of_lt (by omega) (by omega)]
  omega

theorem Nearest.unique {nf : Nat} {v r r' : Int} (hHalf : 2 * (v % 2 ^ nf) ≠ 2 ^ nf)
    (h : Nearest nf v r) (h' : Nearest nf v r') : r = r' :=
  le_antisymm (h'.le_of_not_half hHalf h) (h.le_of_not_half hHalf h')

/-- Rounding to even goes down on a fraction of at most one half or up on one of at least one half. -/
theorem roundInt_toEven_succ_cases (k : Nat) (v : Int) :
    (roundInt .toEven (k + 1) v = v / 2 ^ (k + 1) ∧ v % 2 ^ (k + 1) ≤ 2 ^ k) ∨
    (roundInt .toEven (k + 1) v = v / 2 ^ (k + 1) + 1 ∧ 2 ^ k ≤ v % 2 ^ (k + 1)) := by
  simp only [roundInt]
  split_ifs with hLow hHigh hEven
  · exact .inl ⟨rfl, hLow.le⟩
  · exact .inr ⟨rfl, hHigh.le⟩
  · exact .inl ⟨rfl, not_lt.mp hHigh⟩
  · exact .inr ⟨rfl, not_lt.mp hLow⟩

theorem nearest_roundInt_toEven (nf : Nat) (v : Int) : Nearest nf v (roundInt .toEven nf v) := by
  cases nf with
  | zero => simp [Nearest, roundInt]
  | succ k =>
    have hDouble : (2 : Int) ^ (k + 1) = 2 * 2 ^ k := pow_succ' 2 k
    have hDiv := Int.ediv_mul_add_emod v (2 ^ (k + 1))
    have hRest := Int.emod_nonneg v (show (2 : Int) ^ (k + 1) ≠ 0 by positivity)
    have hRest' := Int.emod_lt_of_pos v (show (0 : Int) < 2 ^ (k + 1) by positivity)
    rw [nearest_iff]
    obtain ⟨hDown, hFraction⟩ | ⟨hUp, hFraction⟩ := roundInt_toEven_succ_cases k v
    · rw [hDown]
      omega
    · rw [hUp, add_one_mul]
      omega

/-- Settles O43: rounding away from zero is to a nearest integer as well (`nearestAway_roundInt`). -/
theorem tieRulesAgreeOffHalves : Obligations.TieRulesAgreeOffHalves := fun nf v hHalf =>
  (nearest_roundInt_toEven nf v).unique hHalf (nearestAway_roundInt nf v).close

end Sys2Proof.Machine
